-- ==== Sys2Proof/Word.lean ====
section
/-! DEFINITION. The widths of the BCU's registers (00_scope.md R6, 10_state.md R22 to R31). -/

namespace Sys2Proof

/-- An 8-bit register element: a byte of `BLK`, a channel of `PIX8`, `POS`, `VAL`, `WARN`. -/
abbrev Byte := BitVec 8

/-- A channel of `PIXH`: a 16-bit half-float pattern, never interpreted (R24, R243). -/
abbrev Half := BitVec 16

/-- The 32-bit registers `CMD` and `STAT`, and the lane of a host access. -/
abbrev Word := BitVec 32

end Sys2Proof
end

