-- ==== Sys2Proof/Syntax.lean ====
section
/-! DEFINITION. The instructions: one constructor per row of spec/opcode_table.json. -/

namespace Sys2Proof

/-- The channels of a pixel, channel numbers 0 to 3 (10_state.md R23, 30_encoding.md R80). -/
inductive Channel where
  | r | g | b | a
  deriving DecidableEq, Repr

/-- One constructor per row of the opcode table. The first thirteen are the commands of
30_encoding.md R81; `reservedCmd` is every other command word (R83). The rows from `bc6hMode1` on
are the block layouts: the rows whose encoding is the mode prefix in `BLK[0]`, to which
`DEC_BC6H` (with its operand `sgn`) and `DEC_BC7` dispatch (R84, R100, R101, R103; log 5). -/
inductive Instr where
  | nop
  | clrw
  | getbit (w64 : Bool)
  | getbits (n : Byte) (w64 : Bool)
  | decBc1 (f4 : Bool)
  | decBc2
  | decBc3
  | decBc4 (bias : Byte) (chan : Channel)
  | decBc5 (bias : Byte)
  | decBc6h (sgn : Bool)
  | decBc7
  | encBc4 (bias : Byte) (chan : Channel)
  | encBc5 (bias : Byte)
  | reservedCmd (w : Word)
  | bc6hMode1 (sgn : Bool)
  | bc6hMode2 (sgn : Bool)
  | bc6hMode3 (sgn : Bool)
  | bc6hMode4 (sgn : Bool)
  | bc6hMode5 (sgn : Bool)
  | bc6hMode6 (sgn : Bool)
  | bc6hMode7 (sgn : Bool)
  | bc6hMode8 (sgn : Bool)
  | bc6hMode9 (sgn : Bool)
  | bc6hMode10 (sgn : Bool)
  | bc6hMode11 (sgn : Bool)
  | bc6hMode12 (sgn : Bool)
  | bc6hMode13 (sgn : Bool)
  | bc6hMode14 (sgn : Bool)
  | bc6hReserved13 (sgn : Bool)
  | bc6hReserved17 (sgn : Bool)
  | bc6hReserved1B (sgn : Bool)
  | bc6hReserved1F (sgn : Bool)
  | bc7Mode0
  | bc7Mode1
  | bc7Mode2
  | bc7Mode3
  | bc7Mode4
  | bc7Mode5
  | bc7Mode6
  | bc7Mode7
  | bc7Reserved
  deriving DecidableEq, Repr

end Sys2Proof
end

