-- ==== Sys2Proof/WellFormed.lean ====
section
/-! DEFINITION. Which terms of `Instr` stand for an encoding. Every operand of every command fills
its field, so the one check is that `reservedCmd` carries a reserved word (30_encoding.md R83). -/

namespace Sys2Proof

/-- The operation codes of 30_encoding.md R81, in the table's order. -/
def opCodes : List Nat :=
  [0x00, 0x01, 0x08, 0x09, 0x11, 0x12, 0x13, 0x14, 0x15, 0x16, 0x17, 0x24, 0x25]

/-- A reserved command word: a nonzero bit in 31:21, or an `op` outside the table (R83). -/
def isReservedWord (w : Word) : Bool :=
  w.extractLsb' 21 11 != 0 || !opCodes.contains (w.extractLsb' 0 8).toNat

/-- An instruction is well formed when some encoding decodes to it. -/
def Instr.wellFormed : Instr → Bool
  | .reservedCmd w => isReservedWord w
  | _ => true

end Sys2Proof
end

