-- ==== Sys2Proof/Decode.lean ====
section
/-! DEFINITION. Decoding and encoding: the command word (30_encoding.md R80 to R83), the block mode
prefixes (R100, R101, R103), the assembler's pseudo-operations (R112), and the opcode table's
words. -/

namespace Sys2Proof

/-! ## The command word -/

/-- `op`, bits 7:0 (R80). -/
def opField (w : Word) : Nat := (w.extractLsb' 0 8).toNat

/-- `arg`, bits 15:8 (R80). -/
def argField (w : Word) : Byte := w.extractLsb' 8 8

/-- A channel number (R23, R80): 0 = r, 1 = g, 2 = b, 3 = a; two bits, so the last arm is 3. -/
def Channel.ofNumber : Nat → Channel
  | 0 => .r
  | 1 => .g
  | 2 => .b
  | _ => .a

/-- The channel number of a channel. -/
def Channel.number : Channel → Nat
  | .r => 0
  | .g => 1
  | .b => 2
  | .a => 3

/-- `chan`, bits 17:16 (R80). -/
def chanField (w : Word) : Channel := Channel.ofNumber (w.extractLsb' 16 2).toNat

/-- `f4`, bit 18 (R80). -/
def f4Field (w : Word) : Bool := w.getLsbD 18

/-- `sgn`, bit 19 (R80). -/
def sgnField (w : Word) : Bool := w.getLsbD 19

/-- `w64`, bit 20 (R80). -/
def w64Field (w : Word) : Bool := w.getLsbD 20

/-- The operation a command word selects (R81). Total: every word outside the table, and every word
with a nonzero bit in 31:21, is the row `RESERVED_CMD` (R83). -/
def decodeWord (w : Word) : Instr :=
  if w.extractLsb' 21 11 ≠ 0 then .reservedCmd w
  else
    match opField w with
    | 0x00 => .nop
    | 0x01 => .clrw
    | 0x08 => .getbit (w64Field w)
    | 0x09 => .getbits (argField w) (w64Field w)
    | 0x11 => .decBc1 (f4Field w)
    | 0x12 => .decBc2
    | 0x13 => .decBc3
    | 0x14 => .decBc4 (argField w) (chanField w)
    | 0x15 => .decBc5 (argField w)
    | 0x16 => .decBc6h (sgnField w)
    | 0x17 => .decBc7
    | 0x24 => .encBc4 (argField w) (chanField w)
    | 0x25 => .encBc5 (argField w)
    | _ => .reservedCmd w

/-! ## The block mode prefixes in `BLK[0]` -/

/-- The BC6H mode code of a prefix byte (R100): two bits, and three more above them when the two are
2 or 3. -/
def bc6hCode (b0 : Byte) : Nat :=
  if b0.toNat % 4 < 2 then b0.toNat % 4 else b0.toNat % 32

/-- The BC6H layout row of a prefix byte (R100, R101). The last arm is never met: `bc6hCode` gives
only the eighteen codes above it (R101). -/
def bc6hLayout (sgn : Bool) (b0 : Byte) : Instr :=
  match bc6hCode b0 with
  | 0x00 => .bc6hMode1 sgn
  | 0x01 => .bc6hMode2 sgn
  | 0x02 => .bc6hMode3 sgn
  | 0x06 => .bc6hMode4 sgn
  | 0x0A => .bc6hMode5 sgn
  | 0x0E => .bc6hMode6 sgn
  | 0x12 => .bc6hMode7 sgn
  | 0x16 => .bc6hMode8 sgn
  | 0x1A => .bc6hMode9 sgn
  | 0x1E => .bc6hMode10 sgn
  | 0x03 => .bc6hMode11 sgn
  | 0x07 => .bc6hMode12 sgn
  | 0x0B => .bc6hMode13 sgn
  | 0x0F => .bc6hMode14 sgn
  | 0x13 => .bc6hReserved13 sgn
  | 0x17 => .bc6hReserved17 sgn
  | 0x1B => .bc6hReserved1B sgn
  | _ => .bc6hReserved1F sgn

/-- The BC7 layout row of a prefix byte: the number of its lowest set bit, or the reserved mode when
it has none (R103, R265, R266). -/
def bc7Layout (b0 : Byte) : Instr :=
  if b0.getLsbD 0 then .bc7Mode0
  else if b0.getLsbD 1 then .bc7Mode1
  else if b0.getLsbD 2 then .bc7Mode2
  else if b0.getLsbD 3 then .bc7Mode3
  else if b0.getLsbD 4 then .bc7Mode4
  else if b0.getLsbD 5 then .bc7Mode5
  else if b0.getLsbD 6 then .bc7Mode6
  else if b0.getLsbD 7 then .bc7Mode7
  else .bc7Reserved

/-- The layout row a command runs on a block whose first byte is `b0`; `none` for the commands whose
block has no mode prefix (R105). -/
def layoutOf (i : Instr) (b0 : Byte) : Option Instr :=
  match i with
  | .decBc6h sgn => some (bc6hLayout sgn b0)
  | .decBc7 => some (bc7Layout b0)
  | _ => none

/-! ## Decoding bytes -/

/-- Why a byte string is no instruction. -/
inductive DecodeError where
  /-- Neither the four bytes of a command word nor these and one prefix byte. -/
  | length
  /-- A prefix byte follows a command whose block has no mode prefix. -/
  | noPrefix
  deriving DecidableEq, Repr

/-- A command word from its four bytes, little-endian (20_memory.md R56). -/
def wordOfBytes (b0 b1 b2 b3 : Byte) : Word :=
  BitVec.ofNat 32 (b0.toNat + b1.toNat * 2 ^ 8 + b2.toNat * 2 ^ 16 + b3.toNat * 2 ^ 24)

/-- The four bytes of a word, little-endian. -/
def bytesOfWord (w : Word) : List Byte :=
  [w.extractLsb' 0 8, w.extractLsb' 8 8, w.extractLsb' 16 8, w.extractLsb' 24 8]

/-- The instruction a byte string stands for: a command word, alone or with the block's mode prefix
byte `BLK[0]`, which refines `DEC_BC6H` and `DEC_BC7` to the layout row they run (log 5). -/
def decode : List Byte → Except DecodeError Instr
  | [b0, b1, b2, b3] => .ok (decodeWord (wordOfBytes b0 b1 b2 b3))
  | [b0, b1, b2, b3, p] =>
    match layoutOf (decodeWord (wordOfBytes b0 b1 b2 b3)) p with
    | some i => .ok i
    | none => .error .noPrefix
  | _ => .error .length

/-! ## Encoding -/

/-- A command word from its fields (R80); bits 31:21 are 0. -/
def commandWord (op : Nat) (arg : Byte) (chan : Channel) (f4 sgn w64 : Bool) : Word :=
  BitVec.ofNat 32 (op + arg.toNat * 2 ^ 8 + chan.number * 2 ^ 16 + f4.toNat * 2 ^ 18 +
    sgn.toNat * 2 ^ 19 + w64.toNat * 2 ^ 20)

/-- The word of `DEC_BC6H sgn`. -/
def bc6hWord (sgn : Bool) : Word := commandWord 0x16 0 .r false sgn false

/-- The word of `DEC_BC7`. -/
def bc7Word : Word := commandWord 0x17 0 .r false false false

/-- An instruction's command word and, for a layout row, its prefix byte. An operand the operation
does not use is encoded 0 (R110), and the bits of a prefix byte above the prefix are 0. -/
def encodeParts : Instr → Word × Option Byte
  | .nop => (commandWord 0x00 0 .r false false false, none)
  | .clrw => (commandWord 0x01 0 .r false false false, none)
  | .getbit w64 => (commandWord 0x08 0 .r false false w64, none)
  | .getbits n w64 => (commandWord 0x09 n .r false false w64, none)
  | .decBc1 f4 => (commandWord 0x11 0 .r f4 false false, none)
  | .decBc2 => (commandWord 0x12 0 .r false false false, none)
  | .decBc3 => (commandWord 0x13 0 .r false false false, none)
  | .decBc4 bias chan => (commandWord 0x14 bias chan false false false, none)
  | .decBc5 bias => (commandWord 0x15 bias .r false false false, none)
  | .decBc6h sgn => (bc6hWord sgn, none)
  | .decBc7 => (bc7Word, none)
  | .encBc4 bias chan => (commandWord 0x24 bias chan false false false, none)
  | .encBc5 bias => (commandWord 0x25 bias .r false false false, none)
  | .reservedCmd w => (w, none)
  | .bc6hMode1 sgn => (bc6hWord sgn, some 0x00)
  | .bc6hMode2 sgn => (bc6hWord sgn, some 0x01)
  | .bc6hMode3 sgn => (bc6hWord sgn, some 0x02)
  | .bc6hMode4 sgn => (bc6hWord sgn, some 0x06)
  | .bc6hMode5 sgn => (bc6hWord sgn, some 0x0A)
  | .bc6hMode6 sgn => (bc6hWord sgn, some 0x0E)
  | .bc6hMode7 sgn => (bc6hWord sgn, some 0x12)
  | .bc6hMode8 sgn => (bc6hWord sgn, some 0x16)
  | .bc6hMode9 sgn => (bc6hWord sgn, some 0x1A)
  | .bc6hMode10 sgn => (bc6hWord sgn, some 0x1E)
  | .bc6hMode11 sgn => (bc6hWord sgn, some 0x03)
  | .bc6hMode12 sgn => (bc6hWord sgn, some 0x07)
  | .bc6hMode13 sgn => (bc6hWord sgn, some 0x0B)
  | .bc6hMode14 sgn => (bc6hWord sgn, some 0x0F)
  | .bc6hReserved13 sgn => (bc6hWord sgn, some 0x13)
  | .bc6hReserved17 sgn => (bc6hWord sgn, some 0x17)
  | .bc6hReserved1B sgn => (bc6hWord sgn, some 0x1B)
  | .bc6hReserved1F sgn => (bc6hWord sgn, some 0x1F)
  | .bc7Mode0 => (bc7Word, some 0x01)
  | .bc7Mode1 => (bc7Word, some 0x02)
  | .bc7Mode2 => (bc7Word, some 0x04)
  | .bc7Mode3 => (bc7Word, some 0x08)
  | .bc7Mode4 => (bc7Word, some 0x10)
  | .bc7Mode5 => (bc7Word, some 0x20)
  | .bc7Mode6 => (bc7Word, some 0x40)
  | .bc7Mode7 => (bc7Word, some 0x80)
  | .bc7Reserved => (bc7Word, some 0x00)

/-- The bytes of an instruction, in the order `decode` reads them. -/
def encode (i : Instr) : List Byte :=
  bytesOfWord (encodeParts i).1 ++ (encodeParts i).2.toList

/-! ## Pseudo-operations (R112) -/

/-- `SIGNED_BIAS`, the `bias` a driver passes for a signed BC4 or BC5 format (R112, D13). -/
def signedBias : Byte := 128

/-- `DEC_BC4U chan` and `DEC_BC4S chan`. -/
def pseudoDecBc4 (signed : Bool) (chan : Channel) : Instr :=
  .decBc4 (if signed then signedBias else 0) chan

/-- `DEC_BC5U` and `DEC_BC5S`. -/
def pseudoDecBc5 (signed : Bool) : Instr := .decBc5 (if signed then signedBias else 0)

/-- `ENC_BC4U chan` and `ENC_BC4S chan`. -/
def pseudoEncBc4 (signed : Bool) (chan : Channel) : Instr :=
  .encBc4 (if signed then signedBias else 0) chan

/-- `ENC_BC5U` and `ENC_BC5S`. -/
def pseudoEncBc5 (signed : Bool) : Instr := .encBc5 (if signed then signedBias else 0)

/-- `DEC_BC6HU` and `DEC_BC6HS`. -/
def pseudoDecBc6h (signed : Bool) : Instr := .decBc6h signed

/-! ## The opcode table's words -/

/-- The command rows of spec/opcode_table.json: (match, mask), in the table's order. -/
def commandRows : List (Word × Word) :=
  opCodes.map fun op => (BitVec.ofNat 32 op, 0xFFE000FF)

/-- The command whose block a table word of at most 16 bits is the prefix of. The table's prefix rows
of the two formats share the byte space, and only the command tells them apart (R105); as table
words are read here, BC7 reads a word that is a BC7 row's own match value and no BC6H row's, and a
word of more than 8 bits (the reader gives BC7_RESERVED a field in bit 8); BC6H, whose rows stand
first in the table, reads every other (log 7). -/
def tablePrefixCommand (nbits w : Nat) : Word :=
  if nbits > 8 ∨ [0x04, 0x08, 0x10, 0x20, 0x40, 0x80].contains w then bc7Word else bc6hWord false

/-- The bytes the decoder is given for a table word. -/
def tableBytes (nbits w : Nat) : List Byte :=
  if nbits ≤ 16 then bytesOfWord (tablePrefixCommand nbits w) ++ [BitVec.ofNat 8 w]
  else bytesOfWord (BitVec.ofNat 32 w)

/-- The instruction the decoder reads from an opcode-table word. -/
def decodeTableWord (nbits w : Nat) : Option Instr :=
  match decode (tableBytes nbits w) with
  | .ok i => some i
  | .error _ => none

end Sys2Proof
end

