-- ==== Sys2Proof/Machine/State.lean ====
section
/-! DEFINITION. The BCU's state (10_state.md R22 to R31), its reset (R37, R380), and the two reason
types. State is plain data. -/

namespace Sys2Proof.Machine

/-- A pixel: one value per channel (R23, R24). -/
structure Pixel (α : Type) where
  r : α
  g : α
  b : α
  a : α
  deriving DecidableEq, Repr

/-- The block buffer, sixteen bytes (R22). -/
abbrev Block := Vector Byte 16

/-- One access of the host to the register window (R32, R111), or a reset of the BCU (R381). An
access names the byte offset of a whole element. -/
inductive HostAccess where
  | read (off : Nat)
  | write (off : Nat) (v : Word)
  | reset
  deriving DecidableEq, Repr

/-- Which elements have been written since reset (the notion of R38 and R384). The model's own record:
no meaning reads it, only Safety.lean does (log 4). `PIXH` and `VAL` are only ever written whole. -/
structure Written where
  blk : Vector Bool 16
  pix8 : Vector (Pixel Bool) 16
  pixh : Bool
  val : Bool
  deriving DecidableEq, Repr

/-- The BCU between two host accesses. `blk` to `fatal` are the registers of 10_state.md; `bus`,
`rdata` and `written` are the model's own (log 2, log 3, log 4). -/
structure State where
  blk : Block
  pix8 : Vector (Pixel Byte) 16
  pixh : Vector (Pixel Half) 16
  val : Byte
  pos : Byte
  cmd : Word
  stat : Word
  warn : Byte
  fatal : Bool
  bus : List HostAccess
  rdata : Word
  written : Written
  deriving DecidableEq, Repr

/-- No fault: no behaviour of the BCU stops it. Each of its errors ends in the error action, a next
state (60_exceptions.md R346), and its one fatal error leaves it accepting accesses (R31). -/
inductive Fault where
  deriving DecidableEq, Repr

/-- Refusals: an instruction without a meaning. -/
inductive Refusal where
  /-- Raised by an arm of `exec` whose instruction has no meaning yet. No arm raises it. Safe. -/
  | notModelled (mnemonic : String)
  deriving DecidableEq, Repr

/-- Nothing has been written yet. -/
def Written.none : Written where
  blk := Vector.replicate 16 false
  pix8 := Vector.replicate 16 ⟨false, false, false, false⟩
  pixh := false
  val := false

/-- The BCU after reset (R37, R380): `POS`, `CMD`, `STAT`, `WARN`, `FATAL` are 0. The spec gives `BLK`,
`PIX8`, `PIXH` and `VAL` no value; DESIGN CHOICE, unsafe: 0 each (log 1). -/
def State.reset : State where
  blk := Vector.replicate 16 0
  pix8 := Vector.replicate 16 ⟨0, 0, 0, 0⟩
  pixh := Vector.replicate 16 ⟨0, 0, 0, 0⟩
  val := 0
  pos := 0
  cmd := 0
  stat := 0
  warn := 0
  fatal := false
  bus := []
  rdata := 0
  written := Written.none

end Sys2Proof.Machine
end

