-- ==== Sys2Proof/Machine/Flags.lean ====
section
/-! DEFINITION. The status registers: the error causes (60_exceptions.md R340), the `STAT` word
(10_state.md R29), the sticky `WARN` bits (R30) and `FATAL` (R31). The BCU has no condition
codes (R27). -/

namespace Sys2Proof.Machine

/-- The error causes (R340). `NONE`, code 0, is the absence of one. -/
inductive Cause where
  | badMode
  | overrun
  | badIndex
  | contract
  | badCmd
  deriving DecidableEq, Repr

/-- The code of a cause in `STAT.cause` (R29, R340). -/
def Cause.code : Cause → Nat
  | .badMode => 1
  | .overrun => 2
  | .badIndex => 3
  | .contract => 4
  | .badCmd => 5

/-- The `WARN` bit of a cause (R30, R340); `CONTRACT` has none. -/
def Cause.warnBit : Cause → Option Nat
  | .badMode => some 0
  | .overrun => some 1
  | .badIndex => some 2
  | .contract => none
  | .badCmd => some 3

/-- The `STAT` word of an error: `info mod 256` in 15:8, the cause code in 2:0, 0 elsewhere
(R29, R346 step 4). -/
def statWord (c : Cause) (info : Nat) : Word := BitVec.ofNat 32 (info % 256 * 256 + c.code)

/-- `STAT.cause` (R29). -/
def State.statCause (s : State) : Nat := (s.stat.extractLsb' 0 3).toNat

/-- `STAT.info` (R29). -/
def State.statInfo (s : State) : Nat := (s.stat.extractLsb' 8 8).toNat

/-- `WARN` with the bit of a cause set (R30). -/
def warnWith (w : Byte) (c : Cause) : Byte :=
  match c.warnBit with
  | some k => w ||| (1#8 <<< k)
  | none => w

end Sys2Proof.Machine
end

