-- ==== Sys2Proof/Machine/Ops.lean ====
section
/-! DEFINITION. The named operations over the registers: the block bit space (20_memory.md R50 to
R55), the bit cursor (40_bitcursor.md R120, R121), register writes, completion and the error
action (60_exceptions.md R346). -/

namespace Sys2Proof.Machine

/-! ## Pixels -/

/-- Apply a function to each channel. -/
def Pixel.map {α β : Type} (f : α → β) (p : Pixel α) : Pixel β := ⟨f p.r, f p.g, f p.b, f p.a⟩

/-- A channel of a pixel (R23). -/
def Pixel.get {α : Type} (p : Pixel α) : Channel → α
  | .r => p.r
  | .g => p.g
  | .b => p.b
  | .a => p.a

/-- A pixel with one channel replaced. -/
def Pixel.set {α : Type} (p : Pixel α) (c : Channel) (v : α) : Pixel α :=
  match c with
  | .r => { p with r := v }
  | .g => { p with g := v }
  | .b => { p with b := v }
  | .a => { p with a := v }

/-! ## The block bit space -/

/-- Byte `j` of a block; above the block, which no rule reads (R61), 0 (log 10). -/
def Block.byte (b : Block) (j : Nat) : Nat := (b[j]?.getD 0).toNat

/-- Block bit `p` is bit `p mod 8` of byte `p div 8` (R51). -/
def Block.bit (b : Block) (p : Nat) : Nat := b.byte (p / 8) / 2 ^ (p % 8) % 2

/-- `MemRead(p, n)`: the sum of `bit(p + k) << k` for `k < n` (R52). -/
def Block.memRead (b : Block) (p : Nat) : Nat → Nat
  | 0 => 0
  | n + 1 => b.memRead p n + b.bit (p + n) * 2 ^ n

/-- The block as one 128-bit little-endian integer (R54). -/
def Block.toInt (b : Block) : Nat := (List.range 16).foldr (fun j v => b.byte j + 256 * v) 0

/-- A block with bit `p` written. -/
def Block.setBit (b : Block) (p : Nat) (v : Bool) : Block :=
  Vector.ofFn fun j : Fin 16 =>
    if j.val = p / 8 then
      (if v then b[j] ||| (1#8 <<< (p % 8)) else b[j] &&& ~~~(1#8 <<< (p % 8)))
    else b[j]

/-- `MemWrite(p, n, v)`: `bit(p + k) <- v[k]` for `k < n`, every other bit kept (R53). -/
def Block.memWrite (b : Block) (p : Nat) : Nat → Nat → Block
  | 0, _ => b
  | n + 1, v => (b.memWrite p n v).setBit (p + n) (v.testBit n)

/-! ## The bit cursor -/

/-- The outcome of a cursor walk: a value and the cursor after it, or the first `raise`, with its
`info` and the cursor at the raise (00_scope.md R9, 60_exceptions.md R351). -/
inductive Walk (α : Type) where
  | ok (v : α) (pos : Nat)
  | raise (c : Cause) (info : Nat) (pos : Nat)
  deriving DecidableEq, Repr

/-- Go on from a walk's value and cursor; a raise ends the walk. -/
def Walk.bind {α β : Type} (x : Walk α) (f : α → Nat → Walk β) : Walk β :=
  match x with
  | .ok v p => f v p
  | .raise c info p => .raise c info p

/-- `getBit()` with limit `L` (R120). -/
def getBit (b : Block) (L pos : Nat) : Walk Nat :=
  if pos + 1 > L then .raise .overrun pos pos else .ok (b.bit pos) (pos + 1)

/-- `getBits(n)` with limit `L` (R121, R123). -/
def getBits (b : Block) (L n pos : Nat) : Walk Nat :=
  if n > 8 then .raise .contract n pos
  else if n = 0 then .ok 0 pos
  else if pos + n > L then .raise .overrun pos pos
  else .ok (b.memRead pos n) (pos + n)

/-- Fields of the given widths, one `getBits` each, limit 128. -/
def readFields (b : Block) : List Nat → Nat → Walk (List Nat)
  | [], pos => .ok [] pos
  | n :: ns, pos =>
    (getBits b 128 n pos).bind fun v pos =>
      (readFields b ns pos).bind fun vs pos => .ok (v :: vs) pos

/-- `n` bits, one `getBit` each, limit `L`. -/
def readBits (b : Block) (L : Nat) : Nat → Nat → Walk (List Nat)
  | 0, pos => .ok [] pos
  | n + 1, pos =>
    (getBit b L pos).bind fun v pos => (readBits b L n pos).bind fun vs pos => .ok (v :: vs) pos

/-- The index plane of pixels `i` to `15`, `n` of them: the field of a pixel of which `short` holds is
one bit shorter than the precision `ip`. The guards stand where 44 R236 and 45 R272, R273 write
them. -/
def readIndices (b : Block) (ip : Nat) (short : Nat → Bool) : (n i pos : Nat) → Walk (List Nat)
  | 0, _, pos => .ok [] pos
  | n + 1, i, pos =>
    let nb := if short i then ip - 1 else ip
    if pos + nb > 128 then .raise .overrun pos pos
    else
      (getBits b 128 nb pos).bind fun idx pos =>
        if idx ≥ 2 ^ ip then .raise .badIndex i pos
        else (readIndices b ip short n (i + 1) pos).bind fun rest pos => .ok (idx :: rest) pos

/-! ## Register writes -/

/-- Write the cursor; the values of every rule are at most 255. -/
def State.setPos (s : State) (p : Nat) : State := { s with pos := BitVec.ofNat 8 p }

/-- Write `VAL`. -/
def State.setVal (s : State) (v : Nat) : State :=
  { s with val := BitVec.ofNat 8 v, written := { s.written with val := true } }

/-- Write all four channels of all sixteen pixels of `PIX8`. -/
def State.setPix8 (s : State) (f : Fin 16 → Pixel Byte) : State :=
  { s with
    pix8 := Vector.ofFn f
    written := { s.written with pix8 := Vector.replicate 16 ⟨true, true, true, true⟩ } }

/-- Write one channel of all sixteen pixels of `PIX8`; the others keep their values (43 R193). -/
def State.setPix8Channel (s : State) (c : Channel) (f : Fin 16 → Byte) : State :=
  { s with
    pix8 := Vector.ofFn fun i : Fin 16 => (s.pix8[i]).set c (f i)
    written := { s.written with
      pix8 := Vector.ofFn fun i : Fin 16 => (s.written.pix8[i]).set c true } }

/-- Write all of `PIXH`. -/
def State.setPixh (s : State) (f : Fin 16 → Pixel Half) : State :=
  { s with pixh := Vector.ofFn f, written := { s.written with pixh := true } }

/-- Write the eight bytes of a half block at byte offset `o` from the block `b`. -/
def State.setBlkHalf (s : State) (o : Nat) (b : Block) : State :=
  { s with
    blk := Vector.ofFn fun j : Fin 16 => if o ≤ j.val ∧ j.val < o + 8 then b[j] else s.blk[j]
    written := { s.written with
      blk := Vector.ofFn fun j : Fin 16 =>
        if o ≤ j.val ∧ j.val < o + 8 then true else s.written.blk[j] } }

/-- A command that completes without error writes `STAT <- 0` (R29, R82 step 4). -/
def State.complete (s : State) : State := { s with stat := 0 }

/-! ## The error action -/

/-- What a raising command does to its output registers (R346 step 2). -/
inductive ErrorOutput where
  | bc6h
  | bc7
  | cursor
  | reserved
  deriving DecidableEq, Repr

/-- The BC6H error pixel, half-float (0, 0, 0, 1) (R347). -/
def bc6hErrorPixel : Pixel Half := ⟨0, 0, 0, 0x3C00⟩

/-- The BC7 error pixel, transparent black (R348, C1). -/
def bc7ErrorPixel : Pixel Byte := ⟨0, 0, 0, 0⟩

/-- Step 2 of the error action (R346): the output registers. -/
def State.errorOutput (s : State) (o : ErrorOutput) (c : Cause) : State :=
  match o with
  | .bc6h => s.setPixh fun _ => bc6hErrorPixel
  | .bc7 => s.setPix8 fun _ => bc7ErrorPixel
  | .cursor => if c = .contract then s else s.setVal 0
  | .reserved => s

/-- The error action (R346), the BCU's only exception entry: the output registers, `POS` as at the
raise, `STAT`, and the `WARN` bit or `FATAL`. Nothing is saved, so there is no return (R352). -/
def State.errorAction (s : State) (o : ErrorOutput) (c : Cause) (info pos : Nat) : State :=
  let t := (s.errorOutput o c).setPos pos
  { t with
    stat := statWord c info
    warn := warnWith t.warn c
    fatal := t.fatal || c == .contract }

/-- End a command whose rule is a walk: on a value, its writes, the cursor and `STAT <- 0`; on a
raise, the error action (R82 step 4, R346). -/
def State.finish {α : Type} (s : State) (o : ErrorOutput) (w : Walk α) (write : State → α → State) :
    State :=
  match w with
  | .ok v pos => ((write s v).setPos pos).complete
  | .raise c info pos => s.errorAction o c info pos

end Sys2Proof.Machine
end

