-- ==== Sys2Proof/Machine/Operands.lean ====
section
/-! DEFINITION. Operand assembly (30_encoding.md R106): the cursor limit of `w64` (R80) and the
fields of the BC1 to BC5 block formats (R85 to R89), at a byte offset `o` of the block. -/

namespace Sys2Proof.Machine

/-- The cursor limit of `GETBIT` and `GETBITS` (R80, R124). -/
def cursorLimit (w64 : Bool) : Nat := if w64 then 64 else 128

/-- `c0` of a `BC1_BLOCK`: a 16-bit colour, low byte first (R85). -/
def Block.bc1C0 (b : Block) (o : Nat) : Nat := b.memRead (8 * o) 16

/-- `c1` of a `BC1_BLOCK` (R85). -/
def Block.bc1C1 (b : Block) (o : Nat) : Nat := b.memRead (8 * o + 16) 16

/-- `idx[i]` of a `BC1_BLOCK`, 2 bits (R85). -/
def Block.bc1Index (b : Block) (o i : Nat) : Nat := b.memRead (8 * o + 32 + 2 * i) 2

/-- `e0` of a `BC4_BLOCK`, the stored byte (R86). -/
def Block.bc4E0 (b : Block) (o : Nat) : Nat := b.memRead (8 * o) 8

/-- `e1` of a `BC4_BLOCK`, the stored byte (R86). -/
def Block.bc4E1 (b : Block) (o : Nat) : Nat := b.memRead (8 * o + 8) 8

/-- `idx[i]` of a `BC4_BLOCK`, 3 bits (R86). -/
def Block.bc4Index (b : Block) (o i : Nat) : Nat := b.memRead (8 * o + 16 + 3 * i) 3

/-- `a4[i]` of a `BC2_BLOCK`, 4 bits (R87). -/
def Block.bc2Alpha (b : Block) (i : Nat) : Nat := b.memRead (4 * i) 4

/-- A byte moved into the unsigned working range: `(x + bias) mod 256` (R197, R301). -/
def biased (x bias : Nat) : Nat := (x + bias) % 256

/-- The inverse: `(x - bias) mod 256` (R198, R311). -/
def unbiased (x bias : Nat) : Nat := (x + (256 - bias % 256)) % 256

/-- Channel `c` of the sixteen pixels of `PIX8`, in pixel order (R314, R315). -/
def State.samples (s : State) (c : Channel) : List Nat :=
  (List.finRange 16).map fun i : Fin 16 => ((s.pix8[i]).get c).toNat

end Sys2Proof.Machine
end

