-- ==== Sys2Proof/Machine/Palette.lean ====
section
/-! DEFINITION. Palette math (41_palette_math.md): the weight tables, interpolation, the BC4 and BC1
palettes, and the BC7 and BC6H unquantisers. All arithmetic is exact integer arithmetic. -/

namespace Sys2Proof.Machine

/-! ## Weights -/

/-- The index precisions of palette math, "the documented 2-4 bit range" (R142). -/
inductive IndexPrec where
  | two
  | three
  | four
  deriving DecidableEq, Repr

/-- The number of bits of a precision. -/
def IndexPrec.bits : IndexPrec → Nat
  | .two => 2
  | .three => 3
  | .four => 4

/-- `W2` (R140). -/
def w2 : List Nat := [0, 21, 43, 64]

/-- `W3` (R140). -/
def w3 : List Nat := [0, 9, 18, 27, 37, 46, 55, 64]

/-- `W4` (R141, G1). -/
def w4 : List Nat := [0, 4, 9, 13, 17, 21, 26, 30, 34, 38, 43, 47, 51, 55, 60, 64]

/-- The weight table of a precision. -/
def weights : IndexPrec → List Nat
  | .two => w2
  | .three => w3
  | .four => w4

/-- `weight(prec, idx)` (R142); an `idx` outside the table, which no command can pass, gives 0
(log 10). -/
def weight (prec : IndexPrec) (idx : Nat) : Nat := (weights prec).getD idx 0

/-! ## Interpolation -/

/-- `interp(a, b, idx, prec)` (R143, D11): `(a (64 - w) + b w + 32) >> 6`, flooring (R8). -/
def interp (a b : Int) (idx : Nat) (prec : IndexPrec) : Int :=
  let w : Int := weight prec idx
  (a * (64 - w) + b * w + 32) / 64

/-- `interp` on unsigned channels; its result lies between them (R143). -/
def interpNat (a b idx : Nat) (prec : IndexPrec) : Nat := (interp a b idx prec).toNat

/-- `interpRGBA(A, B, wc, wa, pc, pa)` (R144). -/
def interpRgba (A B : Pixel Nat) (wc wa : Nat) (pc pa : IndexPrec) : Pixel Nat :=
  ⟨interpNat A.r B.r wc pc, interpNat A.g B.g wc pc, interpNat A.b B.b wc pc,
    interpNat A.a B.a wa pa⟩

/-! ## The BC4 palette -/

/-- `div7(x)` (R145). -/
def div7 (x : Nat) : Nat := x * 2341 / 2 ^ 14

/-- `div5(x)` (R145). -/
def div5 (x : Nat) : Nat := x * 1639 / 2 ^ 13

/-- `BC4_ROUND7` (R146, D12). -/
def bc4Round7 : Nat := 0

/-- `BC4_ROUND5` (R146, D12). -/
def bc4Round5 : Nat := 0

/-- `pal8(e0, e1)`, eight values (R146, D12, D13). -/
def pal8 (e0 e1 : Nat) : List Nat :=
  if e0 > e1 then
    [e0, e1] ++ [1, 2, 3, 4, 5, 6].map fun k => div7 ((7 - k) * e0 + k * e1 + bc4Round7)
  else
    [e0, e1] ++ ([1, 2, 3, 4].map fun k => div5 ((5 - k) * e0 + k * e1 + bc4Round5)) ++ [0, 255]

/-! ## BC1 colours and palette -/

/-- `exp5(x)`, bit replication (R150, D14). -/
def exp5 (x : Nat) : Nat := x * 8 ||| x / 4

/-- `exp6(x)`, bit replication (R150, D14). -/
def exp6 (x : Nat) : Nat := x * 4 ||| x / 16

/-- `expand565(c)` (R150): red 15:11, green 10:5, blue 4:0 (R85), alpha 255. -/
def expand565 (c : Nat) : Pixel Nat :=
  ⟨exp5 (c / 2 ^ 11 % 32), exp6 (c / 2 ^ 5 % 64), exp5 (c % 32), 255⟩

/-- The blend one third of the way from `x` to `y`, to nearest, half up (R151, D15). -/
def third (x y : Nat) : Nat := (2 * x + y + 1) / 3

/-- The middle of `x` and `y`, half up (R151, D15). -/
def half (x y : Nat) : Nat := (x + y + 1) / 2

/-- `palBC1(c0, c1, f4)` (R151); the three-colour branch ends in the sentinel (R195). -/
def palBc1 (c0 c1 : Nat) (f4 : Bool) : List (Pixel Nat) :=
  let k0 := expand565 c0
  let k1 := expand565 c1
  if c0 > c1 ∨ f4 = true then
    [k0, k1, ⟨third k0.r k1.r, third k0.g k1.g, third k0.b k1.b, 255⟩,
      ⟨third k1.r k0.r, third k1.g k0.g, third k1.b k0.b, 255⟩]
  else
    [k0, k1, ⟨half k0.r k1.r, half k0.g k1.g, half k0.b k1.b, 255⟩, ⟨0, 0, 0, 0⟩]

/-- `exp4(a4)` (R152). -/
def exp4 (a4 : Nat) : Nat := a4 * 16 ||| a4

/-! ## The BC7 unquantiser -/

/-- `unq7(c, prec)` (R148). -/
def unq7 (c prec : Nat) : Nat :=
  let t := c * 2 ^ (8 - prec) % 256
  t ||| t / 2 ^ prec

/-! ## The BC6H unquantiser, final scale and half pattern -/

/-- `sext_N(v)` (R156): the low `N` bits read as two's complement. -/
def sext (n : Nat) (v : Int) : Int :=
  let u := v % 2 ^ n
  if u ≥ 2 ^ (n - 1) then u - 2 ^ n else u

/-- `unq6h(c, bits, signed)` (R153, G7, D23). -/
def unq6h (c : Int) (bits : Nat) (signed : Bool) : Int :=
  if signed = false then
    if bits ≥ 15 then c
    else if c = 0 then 0
    else if c = 2 ^ bits - 1 then 0xFFFF
    else (c * 2 ^ 16 + 0x8000) / 2 ^ bits
  else if bits ≥ 16 then c
  else
    let m : Int := c.natAbs
    let u : Int :=
      if m = 0 then 0
      else if m ≥ 2 ^ (bits - 1) - 1 then 0x7FFF
      else (m * 2 ^ 15 + 0x4000) / 2 ^ (bits - 1)
    if c < 0 then -u else u

/-- `fin6h(v, signed)` (R154). -/
def fin6h (v : Int) (signed : Bool) : Int :=
  if signed = false then v * 31 / 64
  else if v < 0 then -(-v * 31 / 32)
  else v * 31 / 32

/-- `half6h(v, signed)`, a half-float pattern assembled from an integer (R155). -/
def half6h (v : Int) (signed : Bool) : Nat :=
  if signed = false then v.toNat
  else if v < 0 then 0x8000 ||| (-v).toNat
  else v.toNat

end Sys2Proof.Machine
end

