-- ==== Sys2Proof/Machine/Partition.lean ====
section
/-! DEFINITION. The partition-shape and fix-up tables (42_partition_tables.md) and the look-ups over
them. The entries are those the spec prints (G2, G3; log 8). A shape row is written as the spec
prints it, one hexadecimal digit per pixel, pixel 0 first. -/

namespace Sys2Proof.Machine

/-- Digit `i` of a printed row: the region of pixel `i`. -/
def rowDigit (row i : Nat) : Nat := row / 16 ^ (15 - i) % 16

/-! ## The 2-region tables -/

/-- Rows 0 to 15 of `SHAPE2_BC7` (R173). -/
def shape2Bc7A : List Nat :=
  [0x0011_0011_0011_0011, 0x0001_0001_0001_0001, 0x0111_0111_0111_0111, 0x0001_0011_0011_0111,
   0x0000_0001_0001_0011, 0x0011_0111_0111_1111, 0x0001_0011_0111_1111, 0x0000_0001_0011_0111,
   0x0000_0000_0001_0011, 0x0011_0111_1111_1111, 0x0000_0001_0111_1111, 0x0000_0000_0001_0111,
   0x0001_0111_1111_1111, 0x0000_0000_1111_1111, 0x0000_1111_1111_1111, 0x0000_0000_0000_1111]

/-- Rows 16 to 31 of `SHAPE2_BC7` (R173). -/
def shape2Bc7B : List Nat :=
  [0x0000_1000_1110_1111, 0x0111_0001_0000_0000, 0x0000_0000_1000_1110, 0x0111_0011_0001_0000,
   0x0011_0001_0000_0000, 0x0000_1000_1100_1110, 0x0000_0000_1000_1100, 0x0111_0011_0011_0001,
   0x0011_0001_0001_0000, 0x0000_1000_1000_1100, 0x0110_0110_0110_0110, 0x0011_0110_0110_1100,
   0x0001_0111_1110_1000, 0x0000_1111_1111_0000, 0x0111_0001_1000_1110, 0x0011_1001_1001_1100]

/-- Rows 32 to 47 of `SHAPE2_BC7` (R173). -/
def shape2Bc7C : List Nat :=
  [0x0101_0101_0101_0101, 0x0000_1111_0000_1111, 0x0101_1010_0101_1010, 0x0011_0011_1100_1100,
   0x0011_1100_0011_1100, 0x0101_0101_1010_1010, 0x0110_1001_0110_1001, 0x0101_1010_1010_0101,
   0x0111_0011_1100_1110, 0x0001_0011_1100_1000, 0x0011_0010_0100_1100, 0x0011_1011_1101_1100,
   0x0110_1001_1001_0110, 0x0011_1100_1100_0011, 0x0110_0110_1001_1001, 0x0000_0110_0110_0000]

/-- Rows 48 to 63 of `SHAPE2_BC7` (R173). -/
def shape2Bc7D : List Nat :=
  [0x0100_1110_0100_0000, 0x0010_0111_0010_0000, 0x0000_0010_0111_0010, 0x0000_0100_1110_0100,
   0x0110_1100_1001_0011, 0x0011_0110_1100_1001, 0x0110_0011_1001_1100, 0x0011_1001_1100_0110,
   0x0110_1100_1100_1001, 0x0110_0011_0011_1001, 0x0111_1110_1000_0001, 0x0001_1000_1110_0111,
   0x0000_1111_0011_0011, 0x0011_0011_1111_0000, 0x0010_0010_1110_1110, 0x0100_0100_0111_0111]

/-- `SHAPE2_BC7[0..63]` (R173). -/
def shape2Bc7 : List Nat := shape2Bc7A ++ shape2Bc7B ++ shape2Bc7C ++ shape2Bc7D

/-- `SHAPE2_BC6H[0..31]` (R172): a table of its own, whose rows equal rows 0 to 31 of
`SHAPE2_BC7`. -/
def shape2Bc6h : List Nat := shape2Bc7.take 32

/-! ## The 3-region table -/

/-- Rows 0 to 15 of `SHAPE3` (R174). -/
def shape3A : List Nat :=
  [0x0011_0011_0221_2222, 0x0001_0011_2211_2221, 0x0000_2001_2211_2211, 0x0222_0022_0011_0111,
   0x0000_0000_1122_1122, 0x0011_0011_0022_0022, 0x0022_0022_1111_1111, 0x0011_0011_2211_2211,
   0x0000_0000_1111_2222, 0x0000_1111_1111_2222, 0x0000_1111_2222_2222, 0x0012_0012_0012_0012,
   0x0112_0112_0112_0112, 0x0122_0122_0122_0122, 0x0011_0112_1122_1222, 0x0011_2001_2200_2220]

/-- Rows 16 to 31 of `SHAPE3` (R174). -/
def shape3B : List Nat :=
  [0x0001_0011_0112_1122, 0x0111_0011_2001_2200, 0x0000_1122_1122_1122, 0x0022_0022_0022_1111,
   0x0111_0111_0222_0222, 0x0001_0001_2221_2221, 0x0000_0011_0122_0122, 0x0000_1100_2210_2210,
   0x0122_0122_0011_0000, 0x0012_0012_1122_2222, 0x0110_1221_1221_0110, 0x0000_0110_1221_1221,
   0x0022_1102_1102_0022, 0x0110_0110_2002_2222, 0x0011_0122_0122_0011, 0x0000_2000_2211_2221]

/-- Rows 32 to 47 of `SHAPE3` (R174). -/
def shape3C : List Nat :=
  [0x0000_0002_1122_1222, 0x0222_0022_0012_0011, 0x0011_0012_0022_0222, 0x0120_0120_0120_0120,
   0x0000_1111_2222_0000, 0x0120_1201_2012_0120, 0x0120_2012_1201_0120, 0x0011_2200_1122_0011,
   0x0011_1122_2200_0011, 0x0101_0101_2222_2222, 0x0000_0000_2121_2121, 0x0022_1122_0022_1122,
   0x0022_0011_0022_0011, 0x0220_1221_0220_1221, 0x0101_2222_2222_0101, 0x0000_2121_2121_2121]

/-- Rows 48 to 63 of `SHAPE3` (R174). -/
def shape3D : List Nat :=
  [0x0101_0101_0101_2222, 0x0222_0111_0222_0111, 0x0002_1112_0002_1112, 0x0000_2112_2112_2112,
   0x0222_0111_0111_0222, 0x0002_1112_1112_0002, 0x0110_0110_0110_2222, 0x0000_0000_2112_2112,
   0x0110_0110_2222_2222, 0x0022_0011_0011_0022, 0x0022_1122_1122_0022, 0x0000_0000_0000_2112,
   0x0002_0001_0002_0001, 0x0222_1222_0222_1222, 0x0101_2222_2222_2222, 0x0111_2011_2201_2220]

/-- `SHAPE3[0..63]` (R174). -/
def shape3 : List Nat := shape3A ++ shape3B ++ shape3C ++ shape3D

/-! ## The fix-up offsets -/

/-- `F2[0..63]` (R176): tier 1, the fix-up pixel of region 1. -/
def f2 : List Nat :=
  [15, 15, 15, 15, 15, 15, 15, 15,
   15, 15, 15, 15, 15, 15, 15, 15,
   15, 2, 8, 2, 2, 8, 8, 15,
   2, 8, 2, 2, 8, 8, 2, 2,
   15, 15, 6, 8, 2, 8, 15, 15,
   2, 8, 2, 2, 2, 15, 15, 6,
   6, 2, 6, 8, 15, 15, 2, 2,
   15, 15, 15, 15, 15, 2, 2, 15]

/-- `F3a[0..63]` (R176): tier 2, the fix-up pixel of region 1. -/
def f3a : List Nat :=
  [3, 3, 15, 15, 8, 3, 15, 15,
   8, 8, 6, 6, 6, 5, 3, 3,
   3, 3, 8, 15, 3, 3, 6, 10,
   5, 8, 8, 6, 8, 5, 15, 15,
   8, 15, 3, 5, 6, 10, 8, 15,
   15, 3, 15, 5, 15, 15, 15, 15,
   3, 15, 5, 5, 5, 8, 5, 10,
   5, 10, 8, 13, 15, 12, 3, 3]

/-- `F3b[0..63]` (R176): tier 2, the fix-up pixel of region 2. -/
def f3b : List Nat :=
  [15, 8, 8, 3, 15, 15, 3, 8,
   15, 15, 15, 15, 15, 15, 15, 8,
   15, 8, 15, 3, 15, 8, 15, 8,
   3, 15, 6, 10, 15, 15, 10, 8,
   15, 3, 15, 10, 10, 8, 9, 10,
   6, 15, 8, 15, 3, 6, 6, 8,
   15, 3, 15, 15, 15, 15, 15, 15,
   15, 15, 15, 15, 3, 15, 15, 8]

/-! ## Look-ups -/

/-- The two formats that use partition tables (R171). -/
inductive PartFormat where
  | bc6h
  | bc7
  deriving DecidableEq, Repr

/-- The partition-count tiers: one, two or three regions (R170). -/
inductive Tier where
  | zero
  | one
  | two
  deriving DecidableEq, Repr

/-- The tier number `t`; the number of regions is `t + 1` (R170). -/
def Tier.toNat : Tier → Nat
  | .zero => 0
  | .one => 1
  | .two => 2

/-- The number of endpoints, `2 (t + 1)` (R170). -/
def Tier.endpoints (t : Tier) : Nat := 2 * (t.toNat + 1)

/-- `regionOf(fmt, t, shape, i)` (R171). BC6H has no tier 2 (R170); shape numbers are inside the
tables by the widths of their fields (log 10). -/
def regionOf (fmt : PartFormat) (t : Tier) (shape i : Nat) : Nat :=
  match t with
  | .zero => 0
  | .one =>
    match fmt with
    | .bc6h => rowDigit (shape2Bc6h.getD shape 0) i
    | .bc7 => rowDigit (shape2Bc7.getD shape 0) i
  | .two => rowDigit (shape3.getD shape 0) i

/-- The meaningful entries of `FIXUP[t][shape]`, `t + 1` of them (R176, U9). -/
def fixups (t : Tier) (shape : Nat) : List Nat :=
  match t with
  | .zero => [0]
  | .one => [0, f2.getD shape 0]
  | .two => [0, f3a.getD shape 0, f3b.getD shape 0]

/-- `isFixup(fmt, t, shape, i)` (R178); one fix-up table serves both formats (R176). -/
def isFixup (t : Tier) (shape i : Nat) : Bool := (fixups t shape).contains i

end Sys2Proof.Machine
end

