-- ==== Sys2Proof/Machine/Bc6hTables.lean ====
section
/-! DEFINITION. The BC6H mode tables (44_bc6h_decode.md R222, R224, R225): per mode its info row and
its bit descriptor, as the spec prints them (G4, G5, G6; log 8). -/

namespace Sys2Proof.Machine

/-- Three values, one per colour channel. -/
structure Rgb (α : Type) where
  r : α
  g : α
  b : α
  deriving DecidableEq, Repr

/-- A header field: the mode code, the shape, or a component of endpoint `E[k]` (R221, R224). -/
inductive HeaderField where
  | m
  | d
  | r (k : Nat)
  | g (k : Nat)
  | b (k : Nat)
  deriving DecidableEq, Repr

/-- A run `lo-hi f[a..b]` of a descriptor row: block bits `lo` to `hi` hold bits of `f`, block bit `lo`
field bit `first`, the field bit stepping by one toward `last` at block bit `hi` (R224). -/
structure HeaderRun where
  lo : Nat
  hi : Nat
  field : HeaderField
  first : Nat
  last : Nat
  deriving DecidableEq, Repr

/-- A row of `BC6H_INFO` (R222) with its row of `BC6H_DESC` (R224). -/
structure Bc6hMode where
  code : Nat
  tier : Tier
  transformed : Bool
  ip : IndexPrec
  hdr : Nat
  pA : Rgb Nat
  pD : Rgb Nat
  desc : List HeaderRun
  deriving DecidableEq, Repr

/-- The descriptor of mode 1, code `0x00` (R224). -/
def bc6hDesc1 : List HeaderRun :=
  [⟨0, 1, .m, 0, 1⟩, ⟨2, 2, .g 2, 4, 4⟩, ⟨3, 3, .b 2, 4, 4⟩, ⟨4, 4, .b 3, 4, 4⟩,
   ⟨5, 14, .r 0, 0, 9⟩, ⟨15, 24, .g 0, 0, 9⟩, ⟨25, 34, .b 0, 0, 9⟩, ⟨35, 39, .r 1, 0, 4⟩,
   ⟨40, 40, .g 3, 4, 4⟩, ⟨41, 44, .g 2, 0, 3⟩, ⟨45, 49, .g 1, 0, 4⟩, ⟨50, 50, .b 3, 0, 0⟩,
   ⟨51, 54, .g 3, 0, 3⟩, ⟨55, 59, .b 1, 0, 4⟩, ⟨60, 60, .b 3, 1, 1⟩, ⟨61, 64, .b 2, 0, 3⟩,
   ⟨65, 69, .r 2, 0, 4⟩, ⟨70, 70, .b 3, 2, 2⟩, ⟨71, 75, .r 3, 0, 4⟩, ⟨76, 76, .b 3, 3, 3⟩,
   ⟨77, 81, .d, 0, 4⟩]

/-- Mode 1, code `0x00` (R222). -/
def bc6hInfo1 : Bc6hMode where
  code := 0x00
  tier := .one
  transformed := true
  ip := .three
  hdr := 82
  pA := ⟨10, 10, 10⟩
  pD := ⟨5, 5, 5⟩
  desc := bc6hDesc1

/-- The descriptor of mode 2, code `0x01` (R224). -/
def bc6hDesc2 : List HeaderRun :=
  [⟨0, 1, .m, 0, 1⟩, ⟨2, 2, .g 2, 5, 5⟩, ⟨3, 4, .g 3, 4, 5⟩, ⟨5, 11, .r 0, 0, 6⟩,
   ⟨12, 13, .b 3, 0, 1⟩, ⟨14, 14, .b 2, 4, 4⟩, ⟨15, 21, .g 0, 0, 6⟩, ⟨22, 22, .b 2, 5, 5⟩,
   ⟨23, 23, .b 3, 2, 2⟩, ⟨24, 24, .g 2, 4, 4⟩, ⟨25, 31, .b 0, 0, 6⟩, ⟨32, 32, .b 3, 3, 3⟩,
   ⟨33, 34, .b 3, 5, 4⟩, ⟨35, 40, .r 1, 0, 5⟩, ⟨41, 44, .g 2, 0, 3⟩, ⟨45, 50, .g 1, 0, 5⟩,
   ⟨51, 54, .g 3, 0, 3⟩, ⟨55, 60, .b 1, 0, 5⟩, ⟨61, 64, .b 2, 0, 3⟩, ⟨65, 70, .r 2, 0, 5⟩,
   ⟨71, 76, .r 3, 0, 5⟩, ⟨77, 81, .d, 0, 4⟩]

/-- Mode 2, code `0x01` (R222). -/
def bc6hInfo2 : Bc6hMode where
  code := 0x01
  tier := .one
  transformed := true
  ip := .three
  hdr := 82
  pA := ⟨7, 7, 7⟩
  pD := ⟨6, 6, 6⟩
  desc := bc6hDesc2

/-- The descriptor of mode 3, code `0x02` (R224). -/
def bc6hDesc3 : List HeaderRun :=
  [⟨0, 4, .m, 0, 4⟩, ⟨5, 14, .r 0, 0, 9⟩, ⟨15, 24, .g 0, 0, 9⟩, ⟨25, 34, .b 0, 0, 9⟩,
   ⟨35, 39, .r 1, 0, 4⟩, ⟨40, 40, .r 0, 10, 10⟩, ⟨41, 44, .g 2, 0, 3⟩, ⟨45, 48, .g 1, 0, 3⟩,
   ⟨49, 49, .g 0, 10, 10⟩, ⟨50, 50, .b 3, 0, 0⟩, ⟨51, 54, .g 3, 0, 3⟩, ⟨55, 58, .b 1, 0, 3⟩,
   ⟨59, 59, .b 0, 10, 10⟩, ⟨60, 60, .b 3, 1, 1⟩, ⟨61, 64, .b 2, 0, 3⟩, ⟨65, 69, .r 2, 0, 4⟩,
   ⟨70, 70, .b 3, 2, 2⟩, ⟨71, 75, .r 3, 0, 4⟩, ⟨76, 76, .b 3, 3, 3⟩, ⟨77, 81, .d, 0, 4⟩]

/-- Mode 3, code `0x02` (R222). -/
def bc6hInfo3 : Bc6hMode where
  code := 0x02
  tier := .one
  transformed := true
  ip := .three
  hdr := 82
  pA := ⟨11, 11, 11⟩
  pD := ⟨5, 4, 4⟩
  desc := bc6hDesc3

/-- The descriptor of mode 4, code `0x06` (R224). -/
def bc6hDesc4 : List HeaderRun :=
  [⟨0, 4, .m, 0, 4⟩, ⟨5, 14, .r 0, 0, 9⟩, ⟨15, 24, .g 0, 0, 9⟩, ⟨25, 34, .b 0, 0, 9⟩,
   ⟨35, 38, .r 1, 0, 3⟩, ⟨39, 39, .r 0, 10, 10⟩, ⟨40, 40, .g 3, 4, 4⟩, ⟨41, 44, .g 2, 0, 3⟩,
   ⟨45, 49, .g 1, 0, 4⟩, ⟨50, 50, .g 0, 10, 10⟩, ⟨51, 54, .g 3, 0, 3⟩, ⟨55, 58, .b 1, 0, 3⟩,
   ⟨59, 59, .b 0, 10, 10⟩, ⟨60, 60, .b 3, 1, 1⟩, ⟨61, 64, .b 2, 0, 3⟩, ⟨65, 68, .r 2, 0, 3⟩,
   ⟨69, 69, .b 3, 0, 0⟩, ⟨70, 70, .b 3, 2, 2⟩, ⟨71, 74, .r 3, 0, 3⟩, ⟨75, 75, .g 2, 4, 4⟩,
   ⟨76, 76, .b 3, 3, 3⟩, ⟨77, 81, .d, 0, 4⟩]

/-- Mode 4, code `0x06` (R222). -/
def bc6hInfo4 : Bc6hMode where
  code := 0x06
  tier := .one
  transformed := true
  ip := .three
  hdr := 82
  pA := ⟨11, 11, 11⟩
  pD := ⟨4, 5, 4⟩
  desc := bc6hDesc4

/-- The descriptor of mode 5, code `0x0A` (R224). -/
def bc6hDesc5 : List HeaderRun :=
  [⟨0, 4, .m, 0, 4⟩, ⟨5, 14, .r 0, 0, 9⟩, ⟨15, 24, .g 0, 0, 9⟩, ⟨25, 34, .b 0, 0, 9⟩,
   ⟨35, 38, .r 1, 0, 3⟩, ⟨39, 39, .r 0, 10, 10⟩, ⟨40, 40, .b 2, 4, 4⟩, ⟨41, 44, .g 2, 0, 3⟩,
   ⟨45, 48, .g 1, 0, 3⟩, ⟨49, 49, .g 0, 10, 10⟩, ⟨50, 50, .b 3, 0, 0⟩, ⟨51, 54, .g 3, 0, 3⟩,
   ⟨55, 59, .b 1, 0, 4⟩, ⟨60, 60, .b 0, 10, 10⟩, ⟨61, 64, .b 2, 0, 3⟩, ⟨65, 68, .r 2, 0, 3⟩,
   ⟨69, 70, .b 3, 1, 2⟩, ⟨71, 74, .r 3, 0, 3⟩, ⟨75, 76, .b 3, 4, 3⟩, ⟨77, 81, .d, 0, 4⟩]

/-- Mode 5, code `0x0A` (R222). -/
def bc6hInfo5 : Bc6hMode where
  code := 0x0A
  tier := .one
  transformed := true
  ip := .three
  hdr := 82
  pA := ⟨11, 11, 11⟩
  pD := ⟨4, 4, 5⟩
  desc := bc6hDesc5

/-- The descriptor of mode 6, code `0x0E` (R224). -/
def bc6hDesc6 : List HeaderRun :=
  [⟨0, 4, .m, 0, 4⟩, ⟨5, 13, .r 0, 0, 8⟩, ⟨14, 14, .b 2, 4, 4⟩, ⟨15, 23, .g 0, 0, 8⟩,
   ⟨24, 24, .g 2, 4, 4⟩, ⟨25, 33, .b 0, 0, 8⟩, ⟨34, 34, .b 3, 4, 4⟩, ⟨35, 39, .r 1, 0, 4⟩,
   ⟨40, 40, .g 3, 4, 4⟩, ⟨41, 44, .g 2, 0, 3⟩, ⟨45, 49, .g 1, 0, 4⟩, ⟨50, 50, .b 3, 0, 0⟩,
   ⟨51, 54, .g 3, 0, 3⟩, ⟨55, 59, .b 1, 0, 4⟩, ⟨60, 60, .b 3, 1, 1⟩, ⟨61, 64, .b 2, 0, 3⟩,
   ⟨65, 69, .r 2, 0, 4⟩, ⟨70, 70, .b 3, 2, 2⟩, ⟨71, 75, .r 3, 0, 4⟩, ⟨76, 76, .b 3, 3, 3⟩,
   ⟨77, 81, .d, 0, 4⟩]

/-- Mode 6, code `0x0E` (R222). -/
def bc6hInfo6 : Bc6hMode where
  code := 0x0E
  tier := .one
  transformed := true
  ip := .three
  hdr := 82
  pA := ⟨9, 9, 9⟩
  pD := ⟨5, 5, 5⟩
  desc := bc6hDesc6

/-- The descriptor of mode 7, code `0x12` (R224). -/
def bc6hDesc7 : List HeaderRun :=
  [⟨0, 4, .m, 0, 4⟩, ⟨5, 12, .r 0, 0, 7⟩, ⟨13, 13, .g 3, 4, 4⟩, ⟨14, 14, .b 2, 4, 4⟩,
   ⟨15, 22, .g 0, 0, 7⟩, ⟨23, 23, .b 3, 2, 2⟩, ⟨24, 24, .g 2, 4, 4⟩, ⟨25, 32, .b 0, 0, 7⟩,
   ⟨33, 34, .b 3, 3, 4⟩, ⟨35, 40, .r 1, 0, 5⟩, ⟨41, 44, .g 2, 0, 3⟩, ⟨45, 49, .g 1, 0, 4⟩,
   ⟨50, 50, .b 3, 0, 0⟩, ⟨51, 54, .g 3, 0, 3⟩, ⟨55, 59, .b 1, 0, 4⟩, ⟨60, 60, .b 3, 1, 1⟩,
   ⟨61, 64, .b 2, 0, 3⟩, ⟨65, 70, .r 2, 0, 5⟩, ⟨71, 76, .r 3, 0, 5⟩, ⟨77, 81, .d, 0, 4⟩]

/-- Mode 7, code `0x12` (R222). -/
def bc6hInfo7 : Bc6hMode where
  code := 0x12
  tier := .one
  transformed := true
  ip := .three
  hdr := 82
  pA := ⟨8, 8, 8⟩
  pD := ⟨6, 5, 5⟩
  desc := bc6hDesc7

/-- The descriptor of mode 8, code `0x16` (R224). -/
def bc6hDesc8 : List HeaderRun :=
  [⟨0, 4, .m, 0, 4⟩, ⟨5, 12, .r 0, 0, 7⟩, ⟨13, 13, .b 3, 0, 0⟩, ⟨14, 14, .b 2, 4, 4⟩,
   ⟨15, 22, .g 0, 0, 7⟩, ⟨23, 24, .g 2, 5, 4⟩, ⟨25, 32, .b 0, 0, 7⟩, ⟨33, 33, .g 3, 5, 5⟩,
   ⟨34, 34, .b 3, 4, 4⟩, ⟨35, 39, .r 1, 0, 4⟩, ⟨40, 40, .g 3, 4, 4⟩, ⟨41, 44, .g 2, 0, 3⟩,
   ⟨45, 50, .g 1, 0, 5⟩, ⟨51, 54, .g 3, 0, 3⟩, ⟨55, 59, .b 1, 0, 4⟩, ⟨60, 60, .b 3, 1, 1⟩,
   ⟨61, 64, .b 2, 0, 3⟩, ⟨65, 69, .r 2, 0, 4⟩, ⟨70, 70, .b 3, 2, 2⟩, ⟨71, 75, .r 3, 0, 4⟩,
   ⟨76, 76, .b 3, 3, 3⟩, ⟨77, 81, .d, 0, 4⟩]

/-- Mode 8, code `0x16` (R222). -/
def bc6hInfo8 : Bc6hMode where
  code := 0x16
  tier := .one
  transformed := true
  ip := .three
  hdr := 82
  pA := ⟨8, 8, 8⟩
  pD := ⟨5, 6, 5⟩
  desc := bc6hDesc8

/-- The descriptor of mode 9, code `0x1A` (R224). -/
def bc6hDesc9 : List HeaderRun :=
  [⟨0, 4, .m, 0, 4⟩, ⟨5, 12, .r 0, 0, 7⟩, ⟨13, 13, .b 3, 1, 1⟩, ⟨14, 14, .b 2, 4, 4⟩,
   ⟨15, 22, .g 0, 0, 7⟩, ⟨23, 23, .b 2, 5, 5⟩, ⟨24, 24, .g 2, 4, 4⟩, ⟨25, 32, .b 0, 0, 7⟩,
   ⟨33, 34, .b 3, 5, 4⟩, ⟨35, 39, .r 1, 0, 4⟩, ⟨40, 40, .g 3, 4, 4⟩, ⟨41, 44, .g 2, 0, 3⟩,
   ⟨45, 49, .g 1, 0, 4⟩, ⟨50, 50, .b 3, 0, 0⟩, ⟨51, 54, .g 3, 0, 3⟩, ⟨55, 60, .b 1, 0, 5⟩,
   ⟨61, 64, .b 2, 0, 3⟩, ⟨65, 69, .r 2, 0, 4⟩, ⟨70, 70, .b 3, 2, 2⟩, ⟨71, 75, .r 3, 0, 4⟩,
   ⟨76, 76, .b 3, 3, 3⟩, ⟨77, 81, .d, 0, 4⟩]

/-- Mode 9, code `0x1A` (R222). -/
def bc6hInfo9 : Bc6hMode where
  code := 0x1A
  tier := .one
  transformed := true
  ip := .three
  hdr := 82
  pA := ⟨8, 8, 8⟩
  pD := ⟨5, 5, 6⟩
  desc := bc6hDesc9

/-- The descriptor of mode 10, code `0x1E` (R224). -/
def bc6hDesc10 : List HeaderRun :=
  [⟨0, 4, .m, 0, 4⟩, ⟨5, 10, .r 0, 0, 5⟩, ⟨11, 11, .g 3, 4, 4⟩, ⟨12, 13, .b 3, 0, 1⟩,
   ⟨14, 14, .b 2, 4, 4⟩, ⟨15, 20, .g 0, 0, 5⟩, ⟨21, 21, .g 2, 5, 5⟩, ⟨22, 22, .b 2, 5, 5⟩,
   ⟨23, 23, .b 3, 2, 2⟩, ⟨24, 24, .g 2, 4, 4⟩, ⟨25, 30, .b 0, 0, 5⟩, ⟨31, 31, .g 3, 5, 5⟩,
   ⟨32, 32, .b 3, 3, 3⟩, ⟨33, 34, .b 3, 5, 4⟩, ⟨35, 40, .r 1, 0, 5⟩, ⟨41, 44, .g 2, 0, 3⟩,
   ⟨45, 50, .g 1, 0, 5⟩, ⟨51, 54, .g 3, 0, 3⟩, ⟨55, 60, .b 1, 0, 5⟩, ⟨61, 64, .b 2, 0, 3⟩,
   ⟨65, 70, .r 2, 0, 5⟩, ⟨71, 76, .r 3, 0, 5⟩, ⟨77, 81, .d, 0, 4⟩]

/-- Mode 10, code `0x1E` (R222). -/
def bc6hInfo10 : Bc6hMode where
  code := 0x1E
  tier := .one
  transformed := false
  ip := .three
  hdr := 82
  pA := ⟨6, 6, 6⟩
  pD := ⟨6, 6, 6⟩
  desc := bc6hDesc10

/-- The descriptor of mode 11, code `0x03` (R224). -/
def bc6hDesc11 : List HeaderRun :=
  [⟨0, 4, .m, 0, 4⟩, ⟨5, 14, .r 0, 0, 9⟩, ⟨15, 24, .g 0, 0, 9⟩, ⟨25, 34, .b 0, 0, 9⟩,
   ⟨35, 44, .r 1, 0, 9⟩, ⟨45, 54, .g 1, 0, 9⟩, ⟨55, 64, .b 1, 0, 9⟩]

/-- Mode 11, code `0x03` (R222). -/
def bc6hInfo11 : Bc6hMode where
  code := 0x03
  tier := .zero
  transformed := false
  ip := .four
  hdr := 65
  pA := ⟨10, 10, 10⟩
  pD := ⟨10, 10, 10⟩
  desc := bc6hDesc11

/-- The descriptor of mode 12, code `0x07` (R224). -/
def bc6hDesc12 : List HeaderRun :=
  [⟨0, 4, .m, 0, 4⟩, ⟨5, 14, .r 0, 0, 9⟩, ⟨15, 24, .g 0, 0, 9⟩, ⟨25, 34, .b 0, 0, 9⟩,
   ⟨35, 43, .r 1, 0, 8⟩, ⟨44, 44, .r 0, 10, 10⟩, ⟨45, 53, .g 1, 0, 8⟩, ⟨54, 54, .g 0, 10, 10⟩,
   ⟨55, 63, .b 1, 0, 8⟩, ⟨64, 64, .b 0, 10, 10⟩]

/-- Mode 12, code `0x07` (R222). -/
def bc6hInfo12 : Bc6hMode where
  code := 0x07
  tier := .zero
  transformed := true
  ip := .four
  hdr := 65
  pA := ⟨11, 11, 11⟩
  pD := ⟨9, 9, 9⟩
  desc := bc6hDesc12

/-- The descriptor of mode 13, code `0x0B` (R224). -/
def bc6hDesc13 : List HeaderRun :=
  [⟨0, 4, .m, 0, 4⟩, ⟨5, 14, .r 0, 0, 9⟩, ⟨15, 24, .g 0, 0, 9⟩, ⟨25, 34, .b 0, 0, 9⟩,
   ⟨35, 42, .r 1, 0, 7⟩, ⟨43, 44, .r 0, 11, 10⟩, ⟨45, 52, .g 1, 0, 7⟩, ⟨53, 54, .g 0, 11, 10⟩,
   ⟨55, 62, .b 1, 0, 7⟩, ⟨63, 64, .b 0, 11, 10⟩]

/-- Mode 13, code `0x0B` (R222). -/
def bc6hInfo13 : Bc6hMode where
  code := 0x0B
  tier := .zero
  transformed := true
  ip := .four
  hdr := 65
  pA := ⟨12, 12, 12⟩
  pD := ⟨8, 8, 8⟩
  desc := bc6hDesc13

/-- The descriptor of mode 14, code `0x0F` (R224). -/
def bc6hDesc14 : List HeaderRun :=
  [⟨0, 4, .m, 0, 4⟩, ⟨5, 14, .r 0, 0, 9⟩, ⟨15, 24, .g 0, 0, 9⟩, ⟨25, 34, .b 0, 0, 9⟩,
   ⟨35, 38, .r 1, 0, 3⟩, ⟨39, 44, .r 0, 15, 10⟩, ⟨45, 48, .g 1, 0, 3⟩, ⟨49, 54, .g 0, 15, 10⟩,
   ⟨55, 58, .b 1, 0, 3⟩, ⟨59, 64, .b 0, 15, 10⟩]

/-- Mode 14, code `0x0F` (R222). -/
def bc6hInfo14 : Bc6hMode where
  code := 0x0F
  tier := .zero
  transformed := true
  ip := .four
  hdr := 65
  pA := ⟨16, 16, 16⟩
  pD := ⟨4, 4, 4⟩
  desc := bc6hDesc14

/-- The fourteen valid modes, in the order of R222 and R225. -/
def bc6hModes : List Bc6hMode :=
  [bc6hInfo1, bc6hInfo2, bc6hInfo3, bc6hInfo4, bc6hInfo5, bc6hInfo6, bc6hInfo7,
   bc6hInfo8, bc6hInfo9, bc6hInfo10, bc6hInfo11, bc6hInfo12, bc6hInfo13, bc6hInfo14]

/-- `BC6H_MODE_TO_INFO[m]` (R225): `none` for the reserved codes and for a code with no layout. -/
def bc6hModeToInfo (m : Nat) : Option Bc6hMode := bc6hModes.find? fun info => info.code == m

/-- The field bit that position `p` of a run stands for. -/
def HeaderRun.bitAt (run : HeaderRun) (p : Nat) : Nat :=
  if run.first ≤ run.last then run.first + (p - run.lo) else run.first - (p - run.lo)

/-- `BC6H_DESC[code][p]`: the (field, bit) pair of header bit `p` (R224); `none` above the header,
where no walk looks (U8). -/
def headerEntry (desc : List HeaderRun) (p : Nat) : Option (HeaderField × Nat) :=
  (desc.find? fun run => run.lo ≤ p && p ≤ run.hi).map fun run => (run.field, run.bitAt p)

end Sys2Proof.Machine
end

