-- ==== Sys2Proof/Machine/Bc6h.lean ====
section
/-! DEFINITION. `DEC_BC6H` and the BC6H block layouts (44_bc6h_decode.md). -/

namespace Sys2Proof.Machine

/-! ## Three channels -/

/-- Apply a function to each channel. -/
def Rgb.map {α β : Type} (f : α → β) (x : Rgb α) : Rgb β := ⟨f x.r, f x.g, f x.b⟩

/-- Combine two triples channel by channel. -/
def Rgb.zip {α β γ : Type} (f : α → β → γ) (x : Rgb α) (y : Rgb β) : Rgb γ :=
  ⟨f x.r y.r, f x.g y.g, f x.b y.b⟩

/-- A triple with one channel changed: 0 = r, 1 = g, 2 = b. -/
def Rgb.modify {α : Type} (x : Rgb α) (c : Nat) (f : α → α) : Rgb α :=
  match c with
  | 0 => { x with r := f x.r }
  | 1 => { x with g := f x.g }
  | _ => { x with b := f x.b }

/-! ## The header walk -/

/-- What the header walk gathers: the four endpoints `E[0..3]` and the shape `d` (R221, R230). -/
structure Header where
  e0 : Rgb Nat
  e1 : Rgb Nat
  e2 : Rgb Nat
  e3 : Rgb Nat
  d : Nat
  deriving DecidableEq, Repr

/-- The header before the walk: everything 0 (R230). -/
def Header.zero : Header := ⟨⟨0, 0, 0⟩, ⟨0, 0, 0⟩, ⟨0, 0, 0⟩, ⟨0, 0, 0⟩, 0⟩

/-- `component | (1 << j)` on channel `c` of `E[k]`. -/
def Header.setBit (h : Header) (k c j : Nat) : Header :=
  match k with
  | 0 => { h with e0 := h.e0.modify c (· ||| 2 ^ j) }
  | 1 => { h with e1 := h.e1.modify c (· ||| 2 ^ j) }
  | 2 => { h with e2 := h.e2.modify c (· ||| 2 ^ j) }
  | _ => { h with e3 := h.e3.modify c (· ||| 2 ^ j) }

/-- Route a set header bit to the field bit its descriptor entry names (R230). -/
def Header.route (h : Header) (entry : Option (HeaderField × Nat)) : Header :=
  match entry with
  | some (.d, j) => { h with d := h.d ||| 2 ^ j }
  | some (.r k, j) => h.setBit k 0 j
  | some (.g k, j) => h.setBit k 1 j
  | some (.b k, j) => h.setBit k 2 j
  | some (.m, _) => h
  | none => h

/-- The header walk (R230): `n` bits from the cursor on. -/
def headerWalk (b : Block) (desc : List HeaderRun) : (n : Nat) → Header → Nat → Walk Header
  | 0, h, pos => .ok h pos
  | n + 1, h, pos =>
    (getBit b 128 pos).bind fun v pos' =>
      headerWalk b desc n (if v = 1 then h.route (headerEntry desc pos) else h) pos'

/-! ## Endpoints -/

/-- The four endpoints as numbers (R221). -/
structure Endpoints where
  e0 : Rgb Int
  e1 : Rgb Int
  e2 : Rgb Int
  e3 : Rgb Int
  deriving DecidableEq, Repr

/-- `E[k]`. -/
def Endpoints.get (e : Endpoints) (k : Nat) : Rgb Int :=
  match k with
  | 0 => e.e0
  | 1 => e.e1
  | 2 => e.e2
  | _ => e.e3

/-- Apply a function to `E[1]` and, with two regions, to `E[2]` and `E[3]`: `k = 1 .. 2 (t + 1) - 1`. -/
def Endpoints.mapOthers (e : Endpoints) (t : Tier) (f : Rgb Int → Rgb Int) : Endpoints :=
  match t with
  | .zero => { e with e1 := f e.e1 }
  | _ => { e with e1 := f e.e1, e2 := f e.e2, e3 := f e.e3 }

/-- The stored bits of the endpoints as unsigned numbers (R230). -/
def Header.endpoints (h : Header) : Endpoints :=
  ⟨h.e0.map Int.ofNat, h.e1.map Int.ofNat, h.e2.map Int.ofNat, h.e3.map Int.ofNat⟩

/-- Sign-extend region 0's A, signed format only (R231). -/
def signExtendA (info : Bc6hMode) (signed : Bool) (e : Endpoints) : Endpoints :=
  if signed then { e with e0 := info.pA.zip sext e.e0 } else e

/-- Sign-extend the other endpoints if signed or transformed (R232). -/
def signExtendOthers (info : Bc6hMode) (signed : Bool) (e : Endpoints) : Endpoints :=
  if signed || info.transformed then e.mapOthers info.tier (info.pD.zip sext) else e

/-- One component of the inverse transform: the sum with region 0's A masked to `pA` bits, and
sign-extended again in the signed format (R233, D24). -/
def untransform (signed : Bool) (pA : Nat) (base delta : Int) : Int :=
  let v := (delta + base) % 2 ^ pA
  if signed then sext pA v else v

/-- The inverse transform (R233); `E[0]` is not changed. -/
def inverseTransform (info : Bc6hMode) (signed : Bool) (e : Endpoints) : Endpoints :=
  if info.transformed then
    e.mapOthers info.tier fun x =>
      ⟨untransform signed info.pA.r e.e0.r x.r, untransform signed info.pA.g e.e0.g x.g,
        untransform signed info.pA.b e.e0.b x.b⟩
  else e

/-- Rules R231, R232, R233 in the order of R234. -/
def bc6hEndpoints (info : Bc6hMode) (signed : Bool) (h : Header) : Endpoints :=
  inverseTransform info signed (signExtendOthers info signed (signExtendA info signed h.endpoints))

/-! ## Pixels -/

/-- One channel of one pixel: unquantise, interpolate, finish, encode (R238, R239, R240). -/
def bc6hChannel (info : Bc6hMode) (signed : Bool) (idx : Nat) (pA : Nat) (a b : Int) : Nat :=
  half6h (fin6h (interp (unq6h a pA signed) (unq6h b pA signed) idx info.ip) signed) signed

/-- Pixel `i` with its index (R237 to R241); alpha is the half-float 1.0. -/
def bc6hPixel (info : Bc6hMode) (signed : Bool) (e : Endpoints) (d i idx : Nat) : Pixel Half :=
  let k := regionOf .bc6h info.tier d i
  let A := e.get (2 * k)
  let B := e.get (2 * k + 1)
  ⟨BitVec.ofNat 16 (bc6hChannel info signed idx info.pA.r A.r B.r),
    BitVec.ofNat 16 (bc6hChannel info signed idx info.pA.g A.g B.g),
    BitVec.ofNat 16 (bc6hChannel info signed idx info.pA.b A.b B.b), 0x3C00⟩

/-- The prefix length of a mode: 2 bits for codes 0 and 1, else 5 (R100, R227). -/
def Bc6hMode.prefixBits (info : Bc6hMode) : Nat := if info.code < 2 then 2 else 5

/-- The walk of a block of a valid mode after the mode read: the header and the sixteen indices
(R230, R236). -/
def bc6hWalk (info : Bc6hMode) (b : Block) : Walk (Header × List Nat) :=
  (headerWalk b info.desc (info.hdr - info.prefixBits) .zero info.prefixBits).bind fun h pos =>
    (readIndices b info.ip.bits (isFixup info.tier h.d) 16 0 pos).bind fun idx pos =>
      .ok (h, idx) pos

/-- Write the sixteen pixels of a walked block (R245). -/
def bc6hEmit (info : Bc6hMode) (signed : Bool) (s : State) (x : Header × List Nat) : State :=
  s.setPixh fun i =>
    bc6hPixel info signed (bc6hEndpoints info signed x.1) x.1.d i (x.2.getD i 0)

/-- `DEC_BC6H` of a block whose mode is valid (R245 from the mode look-up on). -/
def bc6hDecode (info : Bc6hMode) (sgn : Bool) (s : State) : State :=
  s.finish .bc6h (bc6hWalk info s.blk) (bc6hEmit info sgn)

/-- A reserved mode code, or one with no layout, raises `BAD_MODE(m)` with no further bit read
(R228, R225). -/
def bc6hBadMode (m : Nat) (s : State) : State := s.errorAction .bc6h .badMode m 5

/-! ## The layout rows -/

/-- `BC6H_MODE_1`: the decode of a block with the prefix of mode 1 (R222, R224). -/
def execBc6hMode1 (sgn : Bool) (s : State) : Host.Outcome State Fault Refusal :=
  .next (bc6hDecode bc6hInfo1 sgn s)

/-- `BC6H_MODE_2`: the decode of a block with the prefix of mode 2 (R222, R224). -/
def execBc6hMode2 (sgn : Bool) (s : State) : Host.Outcome State Fault Refusal :=
  .next (bc6hDecode bc6hInfo2 sgn s)

/-- `BC6H_MODE_3`: the decode of a block with the prefix of mode 3 (R222, R224). -/
def execBc6hMode3 (sgn : Bool) (s : State) : Host.Outcome State Fault Refusal :=
  .next (bc6hDecode bc6hInfo3 sgn s)

/-- `BC6H_MODE_4`: the decode of a block with the prefix of mode 4 (R222, R224). -/
def execBc6hMode4 (sgn : Bool) (s : State) : Host.Outcome State Fault Refusal :=
  .next (bc6hDecode bc6hInfo4 sgn s)

/-- `BC6H_MODE_5`: the decode of a block with the prefix of mode 5 (R222, R224). -/
def execBc6hMode5 (sgn : Bool) (s : State) : Host.Outcome State Fault Refusal :=
  .next (bc6hDecode bc6hInfo5 sgn s)

/-- `BC6H_MODE_6`: the decode of a block with the prefix of mode 6 (R222, R224). -/
def execBc6hMode6 (sgn : Bool) (s : State) : Host.Outcome State Fault Refusal :=
  .next (bc6hDecode bc6hInfo6 sgn s)

/-- `BC6H_MODE_7`: the decode of a block with the prefix of mode 7 (R222, R224). -/
def execBc6hMode7 (sgn : Bool) (s : State) : Host.Outcome State Fault Refusal :=
  .next (bc6hDecode bc6hInfo7 sgn s)

/-- `BC6H_MODE_8`: the decode of a block with the prefix of mode 8 (R222, R224). -/
def execBc6hMode8 (sgn : Bool) (s : State) : Host.Outcome State Fault Refusal :=
  .next (bc6hDecode bc6hInfo8 sgn s)

/-- `BC6H_MODE_9`: the decode of a block with the prefix of mode 9 (R222, R224). -/
def execBc6hMode9 (sgn : Bool) (s : State) : Host.Outcome State Fault Refusal :=
  .next (bc6hDecode bc6hInfo9 sgn s)

/-- `BC6H_MODE_10`: the decode of a block with the prefix of mode 10 (R222, R224). -/
def execBc6hMode10 (sgn : Bool) (s : State) : Host.Outcome State Fault Refusal :=
  .next (bc6hDecode bc6hInfo10 sgn s)

/-- `BC6H_MODE_11`: the decode of a block with the prefix of mode 11 (R222, R224). -/
def execBc6hMode11 (sgn : Bool) (s : State) : Host.Outcome State Fault Refusal :=
  .next (bc6hDecode bc6hInfo11 sgn s)

/-- `BC6H_MODE_12`: the decode of a block with the prefix of mode 12 (R222, R224). -/
def execBc6hMode12 (sgn : Bool) (s : State) : Host.Outcome State Fault Refusal :=
  .next (bc6hDecode bc6hInfo12 sgn s)

/-- `BC6H_MODE_13`: the decode of a block with the prefix of mode 13 (R222, R224). -/
def execBc6hMode13 (sgn : Bool) (s : State) : Host.Outcome State Fault Refusal :=
  .next (bc6hDecode bc6hInfo13 sgn s)

/-- `BC6H_MODE_14`: the decode of a block with the prefix of mode 14 (R222, R224). -/
def execBc6hMode14 (sgn : Bool) (s : State) : Host.Outcome State Fault Refusal :=
  .next (bc6hDecode bc6hInfo14 sgn s)

/-- `BC6H_RESERVED_13` (R228); the error block is the same for both formats (R244). -/
def execBc6hReserved13 (_sgn : Bool) (s : State) : Host.Outcome State Fault Refusal :=
  .next (bc6hBadMode 0x13 s)

/-- `BC6H_RESERVED_17` (R228); the error block is the same for both formats (R244). -/
def execBc6hReserved17 (_sgn : Bool) (s : State) : Host.Outcome State Fault Refusal :=
  .next (bc6hBadMode 0x17 s)

/-- `BC6H_RESERVED_1B` (R228); the error block is the same for both formats (R244). -/
def execBc6hReserved1B (_sgn : Bool) (s : State) : Host.Outcome State Fault Refusal :=
  .next (bc6hBadMode 0x1B s)

/-- `BC6H_RESERVED_1F` (R228); the error block is the same for both formats (R244). -/
def execBc6hReserved1F (_sgn : Bool) (s : State) : Host.Outcome State Fault Refusal :=
  .next (bc6hBadMode 0x1F s)

/-! ## The command -/

/-- The mode read (R227): two bits, and three more above them when they are 2 or 3. -/
def bc6hModeRead (b : Block) : Walk Nat :=
  (getBits b 128 2 0).bind fun m pos =>
    if m ≥ 2 then (getBits b 128 3 pos).bind fun v pos => .ok (m ||| v * 4) pos else .ok m pos

/-- The rest of `DEC_BC6H` after a mode read of `m` (R225, R228): the meaning of the layout row. The
last arm is the source's catch-all invalid-mode state, which no mode read reaches (R101, U3). -/
def bc6hRun (m : Nat) (sgn : Bool) (s : State) : Host.Outcome State Fault Refusal :=
  match m with
  | 0x00 => execBc6hMode1 sgn s
  | 0x01 => execBc6hMode2 sgn s
  | 0x02 => execBc6hMode3 sgn s
  | 0x06 => execBc6hMode4 sgn s
  | 0x0A => execBc6hMode5 sgn s
  | 0x0E => execBc6hMode6 sgn s
  | 0x12 => execBc6hMode7 sgn s
  | 0x16 => execBc6hMode8 sgn s
  | 0x1A => execBc6hMode9 sgn s
  | 0x1E => execBc6hMode10 sgn s
  | 0x03 => execBc6hMode11 sgn s
  | 0x07 => execBc6hMode12 sgn s
  | 0x0B => execBc6hMode13 sgn s
  | 0x0F => execBc6hMode14 sgn s
  | 0x13 => execBc6hReserved13 sgn s
  | 0x17 => execBc6hReserved17 sgn s
  | 0x1B => execBc6hReserved1B sgn s
  | 0x1F => execBc6hReserved1F sgn s
  | m => .next (bc6hBadMode m s)

/-- `DEC_BC6H` (R245). -/
def execDecBc6h (sgn : Bool) (s : State) : Host.Outcome State Fault Refusal :=
  match bc6hModeRead s.blk with
  | .ok m _ => bc6hRun m sgn s
  | .raise c info pos => .next (s.errorAction .bc6h c info pos)

end Sys2Proof.Machine
end

