-- ==== Sys2Proof/Machine/Bc1to5.lean ====
section
/-! DEFINITION. The decode commands `DEC_BC1` to `DEC_BC5` (43_bc1_bc5_decode.md). None raises an
error (R192). -/

namespace Sys2Proof.Machine

/-- `decodeBC1(o, f4)`, pixel `i` (R190). Every index is 0 to 3, so the default is never taken
(log 10). -/
def decodeBc1 (b : Block) (o : Nat) (f4 : Bool) (i : Nat) : Pixel Nat :=
  (palBc1 (b.bc1C0 o) (b.bc1C1 o) f4).getD (b.bc1Index o i) ⟨0, 0, 0, 0⟩

/-- The palette of a `BC4_BLOCK` at byte offset `o`, built from the biased endpoints (R191, R197). -/
def bc4Palette (b : Block) (o bias : Nat) : List Nat :=
  pal8 (biased (b.bc4E0 o) bias) (biased (b.bc4E1 o) bias)

/-- `decodeBC4(o, bias)`, byte `i` (R191, R198). Every index is 0 to 7, so the default is never taken
(log 10). -/
def decodeBc4 (b : Block) (o bias i : Nat) : Nat :=
  unbiased ((bc4Palette b o bias).getD (b.bc4Index o i) 0) bias

/-- A pixel of numbers below 256 as a pixel of bytes. -/
def bytePixel (p : Pixel Nat) : Pixel Byte := p.map (BitVec.ofNat 8)

/-- `DEC_BC1` (R196). -/
def execDecBc1 (f4 : Bool) (s : State) : Host.Outcome State Fault Refusal :=
  .next (((s.setPix8 fun i => bytePixel (decodeBc1 s.blk 0 f4 i)).setPos 64).complete)

/-- `DEC_BC2` (R200): four-colour BC1 in bytes 8..15, 4-bit alpha in bytes 0..7. -/
def execDecBc2 (s : State) : Host.Outcome State Fault Refusal :=
  .next (((s.setPix8 fun i =>
    bytePixel { decodeBc1 s.blk 8 true i with a := exp4 (s.blk.bc2Alpha i) }).setPos 128).complete)

/-- `DEC_BC3` (R201): four-colour BC1 in bytes 8..15, BC4 alpha with bias 0 in bytes 0..7. -/
def execDecBc3 (s : State) : Host.Outcome State Fault Refusal :=
  .next (((s.setPix8 fun i =>
    bytePixel { decodeBc1 s.blk 8 true i with a := decodeBc4 s.blk 0 0 i }).setPos 128).complete)

/-- `DEC_BC4` (R199, R193): one channel of `PIX8`, the others unchanged. -/
def execDecBc4 (bias : Byte) (chan : Channel) (s : State) : Host.Outcome State Fault Refusal :=
  .next (((s.setPix8Channel chan fun i =>
    BitVec.ofNat 8 (decodeBc4 s.blk 0 bias.toNat i)).setPos 64).complete)

/-- `DEC_BC5` (R202): channels r and g, one bias for both halves (D50). -/
def execDecBc5 (bias : Byte) (s : State) : Host.Outcome State Fault Refusal :=
  .next ((((s.setPix8Channel .r fun i => BitVec.ofNat 8 (decodeBc4 s.blk 0 bias.toNat i)).setPix8Channel
    .g fun i => BitVec.ofNat 8 (decodeBc4 s.blk 8 bias.toNat i)).setPos 128).complete)

end Sys2Proof.Machine
end

