-- ==== Sys2Proof/Machine/Bc7Tables.lean ====
section
/-! DEFINITION. The BC7 mode table (45_bc7_decode.md R262), as the spec prints it (G8; log 8). -/

namespace Sys2Proof.Machine

/-- A row of `BC7_INFO` (R262): tier, shape bits, P-bits, rotation bits, index-selector bits, primary
and secondary index precision, and the bits of each channel before and after the P-bit. -/
structure Bc7Mode where
  mode : Nat
  tier : Tier
  sb : Nat
  np : Nat
  rb : Nat
  ib : Nat
  ip : IndexPrec
  ip2 : Option IndexPrec
  prec : Pixel Nat
  precP : Pixel Nat
  deriving DecidableEq, Repr

/-- Mode 0 (R262). -/
def bc7Info0 : Bc7Mode where
  mode := 0
  tier := .two
  sb := 4
  np := 6
  rb := 0
  ib := 0
  ip := .three
  ip2 := none
  prec := ⟨4, 4, 4, 0⟩
  precP := ⟨5, 5, 5, 0⟩

/-- Mode 1 (R262). -/
def bc7Info1 : Bc7Mode where
  mode := 1
  tier := .one
  sb := 6
  np := 2
  rb := 0
  ib := 0
  ip := .three
  ip2 := none
  prec := ⟨6, 6, 6, 0⟩
  precP := ⟨7, 7, 7, 0⟩

/-- Mode 2 (R262). -/
def bc7Info2 : Bc7Mode where
  mode := 2
  tier := .two
  sb := 6
  np := 0
  rb := 0
  ib := 0
  ip := .two
  ip2 := none
  prec := ⟨5, 5, 5, 0⟩
  precP := ⟨5, 5, 5, 0⟩

/-- Mode 3 (R262). -/
def bc7Info3 : Bc7Mode where
  mode := 3
  tier := .one
  sb := 6
  np := 4
  rb := 0
  ib := 0
  ip := .two
  ip2 := none
  prec := ⟨7, 7, 7, 0⟩
  precP := ⟨8, 8, 8, 0⟩

/-- Mode 4 (R262). -/
def bc7Info4 : Bc7Mode where
  mode := 4
  tier := .zero
  sb := 0
  np := 0
  rb := 2
  ib := 1
  ip := .two
  ip2 := some .three
  prec := ⟨5, 5, 5, 6⟩
  precP := ⟨5, 5, 5, 6⟩

/-- Mode 5 (R262). -/
def bc7Info5 : Bc7Mode where
  mode := 5
  tier := .zero
  sb := 0
  np := 0
  rb := 2
  ib := 0
  ip := .two
  ip2 := some .two
  prec := ⟨7, 7, 7, 8⟩
  precP := ⟨7, 7, 7, 8⟩

/-- Mode 6 (R262). -/
def bc7Info6 : Bc7Mode where
  mode := 6
  tier := .zero
  sb := 0
  np := 2
  rb := 0
  ib := 0
  ip := .four
  ip2 := none
  prec := ⟨7, 7, 7, 7⟩
  precP := ⟨8, 8, 8, 8⟩

/-- Mode 7 (R262). -/
def bc7Info7 : Bc7Mode where
  mode := 7
  tier := .one
  sb := 6
  np := 4
  rb := 0
  ib := 0
  ip := .two
  ip2 := none
  prec := ⟨5, 5, 5, 5⟩
  precP := ⟨6, 6, 6, 6⟩

/-- `BC7_INFO[0..7]` (R262). -/
def bc7Modes : List Bc7Mode :=
  [bc7Info0, bc7Info1, bc7Info2, bc7Info3, bc7Info4, bc7Info5, bc7Info6, bc7Info7]

end Sys2Proof.Machine
end

