-- ==== Sys2Proof/Machine/Bc7.lean ====
section
/-! DEFINITION. `DEC_BC7` and the BC7 block layouts (45_bc7_decode.md). -/

namespace Sys2Proof.Machine

/-! ## Header fields and endpoints -/

/-- What the walk of a BC7 block reads before the index planes (R267 to R269): the header fields, the
stored channels of the endpoints, channel-major, and the P-bits. -/
structure Bc7Fields where
  shape : Nat
  rot : Nat
  isel : Nat
  r : List Nat
  g : List Nat
  b : List Nat
  a : List Nat
  pbits : List Nat
  deriving DecidableEq, Repr

/-- One channel of all endpoints (R268): stored fields, or 255 when the mode stores none. -/
def readChannel (b : Block) (ne prec pos : Nat) : Walk (List Nat) :=
  if prec > 0 then readFields b (List.replicate ne prec) pos
  else .ok (List.replicate ne 255) pos

/-- The fields before the index planes, in the fixed order of R260 (R267, R268, R269). -/
def bc7Header (info : Bc7Mode) (b : Block) (pos : Nat) : Walk Bc7Fields :=
  let ne := info.tier.endpoints
  (getBits b 128 info.sb pos).bind fun shape pos =>
  (getBits b 128 info.rb pos).bind fun rot pos =>
  (getBits b 128 info.ib pos).bind fun isel pos =>
  (readChannel b ne info.prec.r pos).bind fun r pos =>
  (readChannel b ne info.prec.g pos).bind fun g pos =>
  (readChannel b ne info.prec.b pos).bind fun bl pos =>
  (readChannel b ne info.prec.a pos).bind fun a pos =>
  (readBits b 128 info.np pos).bind fun pbits pos =>
    .ok ⟨shape, rot, isel, r, g, bl, a, pbits⟩ pos

/-- The P-bit of endpoint `e`: number `(e np) div ne` (R264). -/
def bc7Pbit (info : Bc7Mode) (pbits : List Nat) (e : Nat) : Nat :=
  pbits.getD (e * info.np / info.tier.endpoints) 0

/-- The splice: a P-bit goes below every channel whose precision it widens (R270). -/
def spliceP (info : Bc7Mode) (pbit prec precP v : Nat) : Nat :=
  if info.np > 0 ∧ prec ≠ precP then v * 2 ||| pbit else v

/-- Unquantise a channel the mode stores (R271, D49). -/
def bc7Unquant (precP v : Nat) : Nat := if precP > 0 then unq7 v precP else v

/-- Endpoint `EP[e]` after the splice and the unquantiser (R270, R271). -/
def bc7Endpoint (info : Bc7Mode) (x : Bc7Fields) (e : Nat) : Pixel Nat :=
  let p := bc7Pbit info x.pbits e
  ⟨bc7Unquant info.precP.r (spliceP info p info.prec.r info.precP.r (x.r.getD e 0)),
    bc7Unquant info.precP.g (spliceP info p info.prec.g info.precP.g (x.g.getD e 0)),
    bc7Unquant info.precP.b (spliceP info p info.prec.b info.precP.b (x.b.getD e 0)),
    bc7Unquant info.precP.a (spliceP info p info.prec.a info.precP.a (x.a.getD e 0))⟩

/-! ## Index planes -/

/-- The primary plane (R272). -/
def bc7Primary (info : Bc7Mode) (b : Block) (shape pos : Nat) : Walk (List Nat) :=
  readIndices b info.ip.bits (isFixup info.tier shape) 16 0 pos

/-- The secondary plane, where the mode has one; only its first field is shortened (R273). -/
def bc7Secondary (info : Bc7Mode) (b : Block) (pos : Nat) : Walk (List Nat) :=
  match info.ip2 with
  | some ip2 => readIndices b ip2.bits (fun i => i == 0) 16 0 pos
  | none => .ok [] pos

/-! ## Pixels -/

/-- Pixel `i` before rotation (R275): `w1`, `w2` are its primary and secondary index. -/
def bc7Interp (info : Bc7Mode) (isel : Nat) (A B : Pixel Nat) (w1 w2 : Nat) : Pixel Nat :=
  match info.ip2 with
  | none => interpRgba A B w1 w1 info.ip info.ip
  | some ip2 =>
    if isel = 0 then interpRgba A B w1 w2 info.ip ip2 else interpRgba A B w2 w1 ip2 info.ip

/-- The channel rotation (R276): alpha swapped with r, g or b, or nothing. -/
def rotate (rot : Nat) (p : Pixel Nat) : Pixel Nat :=
  match rot with
  | 1 => ⟨p.a, p.g, p.b, p.r⟩
  | 2 => ⟨p.r, p.a, p.b, p.g⟩
  | 3 => ⟨p.r, p.g, p.a, p.b⟩
  | _ => p

/-- Pixel `i` of a walked block (R275, R276, R277). -/
def bc7Pixel (info : Bc7Mode) (x : Bc7Fields) (w1 w2 : List Nat) (i : Nat) : Pixel Nat :=
  let k := regionOf .bc7 info.tier x.shape i
  rotate x.rot
    (bc7Interp info x.isel (bc7Endpoint info x (2 * k)) (bc7Endpoint info x (2 * k + 1))
      (w1.getD i 0) (w2.getD i 0))

/-- The walk of a block of a valid mode after the mode read, `mode + 1` bits of prefix (R265, R280). -/
def bc7Walk (info : Bc7Mode) (b : Block) : Walk (Bc7Fields × List Nat × List Nat) :=
  (bc7Header info b (info.mode + 1)).bind fun x pos =>
  (bc7Primary info b x.shape pos).bind fun w1 pos =>
  (bc7Secondary info b pos).bind fun w2 pos =>
    .ok (x, w1, w2) pos

/-- Write the sixteen pixels of a walked block (R280). -/
def bc7Emit (info : Bc7Mode) (s : State) (x : Bc7Fields × List Nat × List Nat) : State :=
  s.setPix8 fun i => bytePixel (bc7Pixel info x.1 x.2.1 x.2.2 i)

/-- `DEC_BC7` of a block whose mode is valid (R280 from the mode look-up on). -/
def bc7Decode (info : Bc7Mode) (s : State) : State :=
  s.finish .bc7 (bc7Walk info s.blk) (bc7Emit info)

/-! ## The layout rows -/

/-- `BC7_MODE_0`: the decode of a block with the prefix of mode 0 (R262). -/
def execBc7Mode0 (s : State) : Host.Outcome State Fault Refusal := .next (bc7Decode bc7Info0 s)

/-- `BC7_MODE_1`: the decode of a block with the prefix of mode 1 (R262). -/
def execBc7Mode1 (s : State) : Host.Outcome State Fault Refusal := .next (bc7Decode bc7Info1 s)

/-- `BC7_MODE_2`: the decode of a block with the prefix of mode 2 (R262). -/
def execBc7Mode2 (s : State) : Host.Outcome State Fault Refusal := .next (bc7Decode bc7Info2 s)

/-- `BC7_MODE_3`: the decode of a block with the prefix of mode 3 (R262). -/
def execBc7Mode3 (s : State) : Host.Outcome State Fault Refusal := .next (bc7Decode bc7Info3 s)

/-- `BC7_MODE_4`: the decode of a block with the prefix of mode 4 (R262). -/
def execBc7Mode4 (s : State) : Host.Outcome State Fault Refusal := .next (bc7Decode bc7Info4 s)

/-- `BC7_MODE_5`: the decode of a block with the prefix of mode 5 (R262). -/
def execBc7Mode5 (s : State) : Host.Outcome State Fault Refusal := .next (bc7Decode bc7Info5 s)

/-- `BC7_MODE_6`: the decode of a block with the prefix of mode 6 (R262). -/
def execBc7Mode6 (s : State) : Host.Outcome State Fault Refusal := .next (bc7Decode bc7Info6 s)

/-- `BC7_MODE_7`: the decode of a block with the prefix of mode 7 (R262). -/
def execBc7Mode7 (s : State) : Host.Outcome State Fault Refusal := .next (bc7Decode bc7Info7 s)

/-- `BC7_RESERVED`: eight zero bits raise `BAD_MODE(8)` with `POS = 8` (R266). -/
def execBc7Reserved (s : State) : Host.Outcome State Fault Refusal :=
  .next (s.errorAction .bc7 .badMode 8 8)

/-! ## The command -/

/-- The unary mode read (R265): `n` more bits may be read, `mode` zero bits have been. -/
def bc7ModeScan (b : Block) : (n mode pos : Nat) → Walk Nat
  | 0, mode, pos => .ok mode pos
  | n + 1, mode, pos =>
    (getBit b 128 pos).bind fun v pos =>
      if v = 1 then .ok mode pos else bc7ModeScan b n (mode + 1) pos

/-- The mode read of a block: 0 to 7, or 8 after eight zero bits, where the scan stops (R265, D28). -/
def bc7ModeRead (b : Block) : Walk Nat := bc7ModeScan b 8 0 0

/-- The rest of `DEC_BC7` after a mode read (R266, R280): the meaning of the layout row. -/
def bc7Run (mode : Nat) (s : State) : Host.Outcome State Fault Refusal :=
  match mode with
  | 0 => execBc7Mode0 s
  | 1 => execBc7Mode1 s
  | 2 => execBc7Mode2 s
  | 3 => execBc7Mode3 s
  | 4 => execBc7Mode4 s
  | 5 => execBc7Mode5 s
  | 6 => execBc7Mode6 s
  | 7 => execBc7Mode7 s
  | _ => execBc7Reserved s

/-- `DEC_BC7` (R280). -/
def execDecBc7 (s : State) : Host.Outcome State Fault Refusal :=
  match bc7ModeRead s.blk with
  | .ok mode _ => bc7Run mode s
  | .raise c info pos => .next (s.errorAction .bc7 c info pos)

end Sys2Proof.Machine
end

