-- ==== Sys2Proof/Machine/Cursor.lean ====
section
/-! DEFINITION. The bit-cursor commands `GETBIT` and `GETBITS` (40_bitcursor.md). -/

namespace Sys2Proof.Machine

/-- `GETBIT` (R124): `VAL <- getBit()`; an overrun writes `VAL <- 0` and leaves `POS` (D9). -/
def execGetbit (w64 : Bool) (s : State) : Host.Outcome State Fault Refusal :=
  .next (s.finish .cursor (getBit s.blk (cursorLimit w64) s.pos.toNat) State.setVal)

/-- `GETBITS` (R125): `VAL <- getBits(n)`; `n > 8` raises `CONTRACT` and leaves `VAL`, an overrun
writes `VAL <- 0` (D9). -/
def execGetbits (n : Byte) (w64 : Bool) (s : State) : Host.Outcome State Fault Refusal :=
  .next (s.finish .cursor (getBits s.blk (cursorLimit w64) n.toNat s.pos.toNat) State.setVal)

end Sys2Proof.Machine
end

