-- ==== Sys2Proof/Machine/Encode.lean ====
section
/-! DEFINITION. The encode commands `ENC_BC4` and `ENC_BC5` (46_bc4_bc5_encode.md). Neither raises an
error (R316). -/

namespace Sys2Proof.Machine

/-! ## Bounds -/

/-- The least of some samples of 0..255; 255 for none. -/
def minOf (v : List Nat) : Nat := v.foldr min 255

/-- The greatest of some samples; 0 for none. -/
def maxOf (v : List Nat) : Nat := v.foldr max 0

/-- The samples away from the two ends of the range (R303, D31). -/
def innerSamples (v : List Nat) : List Nat := v.filter fun x => 8 ≤ x ∧ x ≤ 247

/-- `mn2`, the secondary minimum (R303). -/
def minInner (v : List Nat) : Nat := if innerSamples v = [] then minOf v else minOf (innerSamples v)

/-- `mx2`, the secondary maximum (R303). -/
def maxInner (v : List Nat) : Nat := if innerSamples v = [] then maxOf v else maxOf (innerSamples v)

/-! ## Scoring -/

/-- `|x - y|`. -/
def absDiff (x y : Nat) : Nat := (x - y) + (y - x)

/-- The squared distance of a sample to its nearest palette entry, the least over the palette. -/
def nearestSq (P : List Nat) (x : Nat) : Nat :=
  match P with
  | [] => 0
  | p :: ps => ps.foldl (fun m q => min m (absDiff x q ^ 2)) (absDiff x p ^ 2)

/-- `score(a0, a1)` of some samples (R304, D37). -/
def score (v : List Nat) (a0 a1 : Nat) : Nat := (v.map (nearestSq (pal8 a0 a1))).sum

/-! ## Windows and search -/

/-- The pairs of a window of inclusive bounds: `a0` outer, `a1` inner, both ascending (R307, D35). -/
def windowPairs (lo0 hi0 lo1 hi1 : Nat) : List (Nat × Nat) :=
  (List.range' lo0 (hi0 + 1 - lo0)).flatMap fun a0 =>
    (List.range' lo1 (hi1 + 1 - lo1)).map fun a1 => (a0, a1)

/-- The tight window (R305, D34). -/
def tightWindow (v : List Nat) : List (Nat × Nat) :=
  windowPairs (maxOf v - 4) (min 255 (maxOf v + 7)) (minOf v - 8) (min 255 (minOf v + 3))

/-- The flipped window (R306, D33, D34). -/
def flippedWindow (v : List Nat) : List (Nat × Nat) :=
  windowPairs (minInner v - 8) (min 255 (minInner v + 3)) (maxInner v - 4)
    (min 255 (maxInner v + 7))

/-- The best pair so far, with its error. -/
structure Best where
  e : Nat
  a0 : Nat
  a1 : Nat
  deriving DecidableEq, Repr

/-- Whether an error replaces the best so far: only a strictly smaller one does (R307). -/
def improves (e : Nat) (best : Option Best) : Bool :=
  match best with
  | none => true
  | some b => e < b.e

/-- `search(W)` (R307): the best pair after the pairs of a window, and whether the search is done,
which it is at the first error 0. -/
def searchWindow (v : List Nat) : Option Best → List (Nat × Nat) → Option Best × Bool
  | best, [] => (best, false)
  | best, (a0, a1) :: ps =>
    let e := score v a0 a1
    if improves e best then
      if e = 0 then (some ⟨e, a0, a1⟩, true) else searchWindow v (some ⟨e, a0, a1⟩) ps
    else searchWindow v best ps

/-- Whether the flipped window is searched (R306, D32). -/
def nearEnds (v : List Nat) : Bool := minOf v < 8 || maxOf v > 247

/-- The search over both windows (R307). -/
def searchBoth (v : List Nat) : Option Best :=
  match searchWindow v none (tightWindow v) with
  | (best, true) => best
  | (best, false) => if nearEnds v then (searchWindow v best (flippedWindow v)).1 else best

/-- The chosen pair. The tight window is never empty (R307), so the default, its centre `(mx, mn)`, is
never taken (log 10). -/
def bestPair (v : List Nat) : Best :=
  (searchBoth v).getD ⟨score v (maxOf v) (minOf v), maxOf v, minOf v⟩

/-! ## Indices and packing -/

/-- The smallest `k` from `k` on that is at least as near to `x` as every later entry and nearer than
the best so far, `best` at distance `d` (R310, D36). -/
def nearestFrom (x : Nat) : List Nat → (k best d : Nat) → Nat
  | [], _, best, _ => best
  | p :: ps, k, best, d =>
    if absDiff x p < d then nearestFrom x ps (k + 1) k (absDiff x p)
    else nearestFrom x ps (k + 1) best d

/-- The smallest position of a nearest palette entry (R310, D36). -/
def nearestIndex (P : List Nat) (x : Nat) : Nat :=
  match P with
  | [] => 0
  | p :: ps => nearestFrom x ps 1 0 (absDiff x p)

/-- What `encodeBC4` returns: two endpoint bytes and sixteen indices (R310, R311). -/
structure Encoded where
  b0 : Nat
  b1 : Nat
  idx : List Nat
  deriving DecidableEq, Repr

/-- `encodeBC4(s, bias)` (R301 to R311). -/
def encodeBc4 (samples : List Nat) (bias : Nat) : Encoded :=
  let v := samples.map fun x => biased x bias
  let best := bestPair v
  ⟨unbiased best.a0 bias, unbiased best.a1 bias, v.map (nearestIndex (pal8 best.a0 best.a1))⟩

/-- The index fields of pixels `i` on, 3 bits each (R312). -/
def packIndices (b : Block) (o : Nat) : List Nat → Nat → Block
  | [], _ => b
  | x :: xs, i => packIndices (b.memWrite (8 * o + 16 + 3 * i) 3 x) o xs (i + 1)

/-- Packing at byte offset `o` (R312). -/
def packBc4 (b : Block) (o : Nat) (x : Encoded) : Block :=
  packIndices ((b.memWrite (8 * o) 8 x.b0).memWrite (8 * o + 8) 8 x.b1) o x.idx 0

/-- Encode one channel of `PIX8` into the half of `BLK` at byte offset `o`. -/
def State.encodeHalf (s : State) (o : Nat) (bias : Byte) (c : Channel) : State :=
  s.setBlkHalf o (packBc4 s.blk o (encodeBc4 (s.samples c) bias.toNat))

/-- `ENC_BC4` (R314). -/
def execEncBc4 (bias : Byte) (chan : Channel) (s : State) : Host.Outcome State Fault Refusal :=
  .next (((s.encodeHalf 0 bias chan).setPos 64).complete)

/-- `ENC_BC5` (R315): the two halves are searched independently. -/
def execEncBc5 (bias : Byte) (s : State) : Host.Outcome State Fault Refusal :=
  .next ((((s.encodeHalf 0 bias .r).encodeHalf 8 bias .g).setPos 128).complete)

end Sys2Proof.Machine
end

