-- ==== Sys2Proof/Machine/System.lean ====
section
/-! DEFINITION. The system commands `NOP` and `CLRW` (47_system.md) and the reserved command words
(30_encoding.md R83, 60_exceptions.md R344). -/

namespace Sys2Proof.Machine

/-- `NOP` (R330): `STAT <- 0`. -/
def execNop (s : State) : Host.Outcome State Fault Refusal := .next s.complete

/-- `CLRW` (R331): `WARN <- 0`, `STAT <- 0`; `FATAL` stays. -/
def execClrw (s : State) : Host.Outcome State Fault Refusal := .next { s with warn := 0 }.complete

/-- A reserved command word raises `BAD_CMD(op)` and changes no data register (R83, R344). -/
def execReservedCmd (w : Word) (s : State) : Host.Outcome State Fault Refusal :=
  .next (s.errorAction .reserved .badCmd (opField w) s.pos.toNat)

end Sys2Proof.Machine
end

