-- ==== Sys2Proof/Machine/Dispatch.lean ====
section
/-! DEFINITION. One arm per instruction: its meaning. The meaning is steps 3 and 4 of 30_encoding.md
R82; steps 1 and 2 (the store to `CMD`, the test of `FATAL`) come before it, in HostPort.lean. -/

namespace Sys2Proof.Machine

def exec (i : Instr) (s : State) : Host.Outcome State Fault Refusal :=
  match i with
  | .nop => Sys2Proof.Machine.execNop s
  | .clrw => Sys2Proof.Machine.execClrw s
  | .getbit w64 => Sys2Proof.Machine.execGetbit w64 s
  | .getbits n w64 => Sys2Proof.Machine.execGetbits n w64 s
  | .decBc1 f4 => Sys2Proof.Machine.execDecBc1 f4 s
  | .decBc2 => Sys2Proof.Machine.execDecBc2 s
  | .decBc3 => Sys2Proof.Machine.execDecBc3 s
  | .decBc4 bias chan => Sys2Proof.Machine.execDecBc4 bias chan s
  | .decBc5 bias => Sys2Proof.Machine.execDecBc5 bias s
  | .decBc6h sgn => Sys2Proof.Machine.execDecBc6h sgn s
  | .decBc7 => Sys2Proof.Machine.execDecBc7 s
  | .encBc4 bias chan => Sys2Proof.Machine.execEncBc4 bias chan s
  | .encBc5 bias => Sys2Proof.Machine.execEncBc5 bias s
  | .reservedCmd w => Sys2Proof.Machine.execReservedCmd w s
  | .bc6hMode1 sgn => Sys2Proof.Machine.execBc6hMode1 sgn s
  | .bc6hMode2 sgn => Sys2Proof.Machine.execBc6hMode2 sgn s
  | .bc6hMode3 sgn => Sys2Proof.Machine.execBc6hMode3 sgn s
  | .bc6hMode4 sgn => Sys2Proof.Machine.execBc6hMode4 sgn s
  | .bc6hMode5 sgn => Sys2Proof.Machine.execBc6hMode5 sgn s
  | .bc6hMode6 sgn => Sys2Proof.Machine.execBc6hMode6 sgn s
  | .bc6hMode7 sgn => Sys2Proof.Machine.execBc6hMode7 sgn s
  | .bc6hMode8 sgn => Sys2Proof.Machine.execBc6hMode8 sgn s
  | .bc6hMode9 sgn => Sys2Proof.Machine.execBc6hMode9 sgn s
  | .bc6hMode10 sgn => Sys2Proof.Machine.execBc6hMode10 sgn s
  | .bc6hMode11 sgn => Sys2Proof.Machine.execBc6hMode11 sgn s
  | .bc6hMode12 sgn => Sys2Proof.Machine.execBc6hMode12 sgn s
  | .bc6hMode13 sgn => Sys2Proof.Machine.execBc6hMode13 sgn s
  | .bc6hMode14 sgn => Sys2Proof.Machine.execBc6hMode14 sgn s
  | .bc6hReserved13 sgn => Sys2Proof.Machine.execBc6hReserved13 sgn s
  | .bc6hReserved17 sgn => Sys2Proof.Machine.execBc6hReserved17 sgn s
  | .bc6hReserved1B sgn => Sys2Proof.Machine.execBc6hReserved1B sgn s
  | .bc6hReserved1F sgn => Sys2Proof.Machine.execBc6hReserved1F sgn s
  | .bc7Mode0 => Sys2Proof.Machine.execBc7Mode0 s
  | .bc7Mode1 => Sys2Proof.Machine.execBc7Mode1 s
  | .bc7Mode2 => Sys2Proof.Machine.execBc7Mode2 s
  | .bc7Mode3 => Sys2Proof.Machine.execBc7Mode3 s
  | .bc7Mode4 => Sys2Proof.Machine.execBc7Mode4 s
  | .bc7Mode5 => Sys2Proof.Machine.execBc7Mode5 s
  | .bc7Mode6 => Sys2Proof.Machine.execBc7Mode6 s
  | .bc7Mode7 => Sys2Proof.Machine.execBc7Mode7 s
  | .bc7Reserved => Sys2Proof.Machine.execBc7Reserved s

end Sys2Proof.Machine
end

