-- ==== Sys2Proof/Machine/HostPort.lean ====
section
/-! DEFINITION. The host register window (10_state.md R28, R32), what one host access does, the
acceptance of a command word (30_encoding.md R82), and the host's notation and expansions (R111,
R112). -/

namespace Sys2Proof.Machine

/-- The register elements of R32's table. -/
inductive HostReg where
  | blk (i : Fin 16)
  | cmd
  | stat
  | pos
  | val
  | warn
  | fatal
  | pix8 (i : Fin 16) (c : Channel)
  | pixh (i : Fin 16) (c : Channel)
  deriving DecidableEq, Repr

/-- The element at a byte offset (R32); `none` where the table has none, which includes the offsets
inside an element. -/
def hostReg (off : Nat) : Option HostReg :=
  if off < 0x10 then some (.blk (Fin.ofNat 16 off))
  else if off = 0x10 then some .cmd
  else if off = 0x14 then some .stat
  else if off = 0x18 then some .pos
  else if off = 0x19 then some .val
  else if off = 0x1A then some .warn
  else if off = 0x1B then some .fatal
  else if 0x40 ≤ off ∧ off < 0x80 then
    some (.pix8 (Fin.ofNat 16 ((off - 0x40) / 4)) (Channel.ofNumber ((off - 0x40) % 4)))
  else if 0x80 ≤ off ∧ off < 0x100 ∧ off % 2 = 0 then
    some (.pixh (Fin.ofNat 16 ((off - 0x80) / 8)) (Channel.ofNumber ((off - 0x80) % 8 / 2)))
  else none

/-- The byte offset of an element (R32). -/
def HostReg.offset : HostReg → Nat
  | .blk i => i.val
  | .cmd => 0x10
  | .stat => 0x14
  | .pos => 0x18
  | .val => 0x19
  | .warn => 0x1A
  | .fatal => 0x1B
  | .pix8 i c => 0x40 + 4 * i.val + c.number
  | .pixh i c => 0x80 + 8 * i.val + 2 * c.number

/-- The value of an element, in the low bits of the host's lane (R32, log 3). -/
def State.regValue (s : State) : HostReg → Word
  | .blk i => (s.blk[i]).setWidth 32
  | .cmd => s.cmd
  | .stat => s.stat
  | .pos => s.pos.setWidth 32
  | .val => s.val.setWidth 32
  | .warn => s.warn.setWidth 32
  | .fatal => (BitVec.ofBool s.fatal).setWidth 32
  | .pix8 i c => ((s.pix8[i]).get c).setWidth 32
  | .pixh i c => ((s.pixh[i]).get c).setWidth 32

/-- What a host read of an offset returns; 0 where there is no register (R32). -/
def State.hostRead (s : State) (off : Nat) : Word :=
  match hostReg off with
  | some r => s.regValue r
  | none => 0

/-- A host write of one byte of `BLK`. -/
def State.hostSetBlk (s : State) (i : Fin 16) (v : Byte) : State :=
  { s with
    blk := s.blk.set i v
    written := { s.written with blk := s.written.blk.set i true } }

/-- A host write of one channel of `PIX8`. -/
def State.hostSetPix8 (s : State) (i : Fin 16) (c : Channel) (v : Byte) : State :=
  { s with
    pix8 := s.pix8.set i ((s.pix8[i]).set c v)
    written := { s.written with pix8 := s.written.pix8.set i ((s.written.pix8[i]).set c true) } }

/-- A host write that executes no command: `BLK`, `POS` and `PIX8` take the low bits of the lane; a
write to a read-only register or to no register is ignored (R32, U12, log 3). -/
def State.hostWrite (s : State) (off : Nat) (v : Word) : State :=
  match hostReg off with
  | some (.blk i) => s.hostSetBlk i (v.setWidth 8)
  | some .pos => { s with pos := v.setWidth 8 }
  | some (.pix8 i c) => s.hostSetPix8 i c (v.setWidth 8)
  | _ => s

/-- Reset (R381): the register state is replaced by that of R380; the host's own pending accesses and
its last read are not the BCU's and stay (log 15). -/
def State.resetEvent (s : State) : State := { State.reset with bus := s.bus, rdata := s.rdata }

/-- What serving an access leads to: a settled state, or an instruction to execute at a state. -/
inductive Service where
  | settled (s : State)
  | run (i : Instr) (s : State)
  deriving DecidableEq, Repr

/-- A write of word `w` to `CMD` (R82): step 1 stores the word, step 2 ends it under `FATAL`, and
steps 3 and 4 are the instruction the word decodes to, reserved words included (log 14). -/
def State.acceptCommand (s : State) (w : Word) : Service :=
  let t := { s with cmd := w }
  if t.fatal then .settled t else .run (decodeWord w) t

/-- Serve one host access. -/
def State.serveAccess (s : State) : HostAccess → Service
  | .read off => .settled { s with rdata := s.hostRead off }
  | .write off v => if hostReg off = some .cmd then s.acceptCommand v else .settled (s.hostWrite off v)
  | .reset => .settled s.resetEvent

/-- Serve the oldest pending access (R66); with none pending the BCU holds its state (R350, R368). -/
def State.serve (s : State) : Service :=
  match s.bus with
  | [] => .settled s
  | x :: rest => { s with bus := rest }.serveAccess x

/-! ## The host's program notation (R111) -/

/-- `WR reg, v`. -/
def wr (r : HostReg) (v : Word) : HostAccess := .write r.offset v

/-- `RD reg`. -/
def rd (r : HostReg) : HostAccess := .read r.offset

/-- `WRBLK b0, ..., bk`. -/
def wrblk (bytes : List Byte) : List HostAccess :=
  bytes.zipIdx.map fun (b, j) => .write j (b.setWidth 32)

/-- `WRPOS v`, also `SETPOS v`. -/
def wrpos (v : Byte) : HostAccess := wr .pos (v.setWidth 32)

/-- `WR CMD, w`. -/
def wrcmd (w : Word) : HostAccess := wr .cmd w

/-! ## The expansions of `decode` and `encode` (R112) -/

/-- A format of R2 with the operands its commands take. Which operands a format's name stands for is the
host's business (00_scope.md R5). -/
inductive Format where
  | bc1 (f4 : Bool)
  | bc2
  | bc3
  | bc4 (bias : Byte) (chan : Channel)
  | bc5 (bias : Byte)
  | bc6h (sgn : Bool)
  | bc7
  deriving DecidableEq, Repr

/-- `DEC_<format>` with the operands of the format (R112). -/
def Format.decoder : Format → Instr
  | .bc1 f4 => .decBc1 f4
  | .bc2 => .decBc2
  | .bc3 => .decBc3
  | .bc4 bias chan => .decBc4 bias chan
  | .bc5 bias => .decBc5 bias
  | .bc6h sgn => .decBc6h sgn
  | .bc7 => .decBc7

/-- `ENC_<format>`, BC4 and BC5 only (R112). -/
def Format.encoder : Format → Option Instr
  | .bc4 bias chan => some (.encBc4 bias chan)
  | .bc5 bias => some (.encBc5 bias)
  | .bc1 _ => none
  | .bc2 => none
  | .bc3 => none
  | .bc6h _ => none
  | .bc7 => none

/-- The pixel channels the format's commands use (10_state.md R36). -/
def Format.channels : Format → List Channel
  | .bc4 _ chan => [chan]
  | .bc5 _ => [.r, .g]
  | .bc1 _ => [.r, .g, .b, .a]
  | .bc2 => [.r, .g, .b, .a]
  | .bc3 => [.r, .g, .b, .a]
  | .bc6h _ => [.r, .g, .b, .a]
  | .bc7 => [.r, .g, .b, .a]

/-- The register of channel `c` of pixel `i` of the format: `PIXH` for BC6H, else `PIX8` (R36). -/
def Format.pixelReg (f : Format) (i : Fin 16) (c : Channel) : HostReg :=
  match f with
  | .bc6h _ => .pixh i c
  | .bc1 _ => .pix8 i c
  | .bc2 => .pix8 i c
  | .bc3 => .pix8 i c
  | .bc4 _ _ => .pix8 i c
  | .bc5 _ => .pix8 i c
  | .bc7 => .pix8 i c

/-- The pixel registers `DEC_<format>` writes, pixel by pixel (R36). -/
def Format.pixelRegs (f : Format) : List HostReg :=
  (List.finRange 16).flatMap fun i => f.channels.map (f.pixelReg i)

/-- The bytes of a block of the format (00_scope.md R6, R85 to R89, R100, R103). -/
def Format.blockBytes : Format → Nat
  | .bc1 _ => 8
  | .bc4 _ _ => 8
  | .bc2 => 16
  | .bc3 => 16
  | .bc5 _ => 16
  | .bc6h _ => 16
  | .bc7 => 16

/-- `decode(format, srcBlock)` (R112): load the block, write the command, read the pixel registers the
command wrote. -/
def hostDecode (f : Format) (block : List Byte) : List HostAccess :=
  wrblk block ++ [wrcmd (encodeParts f.decoder).1] ++ f.pixelRegs.map rd

/-- `encode(format, pixel[16])` (R112): write the channels used, write the command, read the block;
`none` for the formats the BCU does not encode. -/
def hostEncode (f : Format) (pixels : Vector (Pixel Byte) 16) : Option (List HostAccess) :=
  f.encoder.map fun i =>
    ((List.finRange 16).flatMap fun k : Fin 16 =>
        f.channels.map fun c => wr (f.pixelReg k c) (((pixels[k]).get c).setWidth 32)) ++
      [wrcmd (encodeParts i).1] ++
      ((List.finRange 16).take f.blockBytes).map fun j => rd (.blk j)

end Sys2Proof.Machine
end

