-- ==== Sys2Proof/Machine/Step.lean ====
section
/-! DEFINITION. One step: serve the oldest host access; a command it writes is executed in the same
step (10_state.md R20, 20_memory.md R66). -/

namespace Sys2Proof.Machine

/-- One step of the BCU. -/
def step (s : State) : Host.Outcome State Fault Refusal :=
  match s.serve with
  | .settled t => .next t
  | .run i t => exec i t

/-- `s` with an opcode-table word where `step` takes its next instruction: a command word is the
oldest pending access, a write to `CMD`; a block prefix is the first byte of `BLK` (the rest of the
block 0), with the write of its command pending (log 6, log 7). -/
def State.withFetchWord (s : State) (nbits w : Nat) : State :=
  if nbits ≤ 16 then
    { s with
      blk := Vector.ofFn fun j : Fin 16 => BitVec.ofNat 8 (w % 2 ^ nbits / 256 ^ j.val)
      written := { s.written with blk := Vector.replicate 16 true }
      bus := wrcmd (tablePrefixCommand nbits w) :: s.bus }
  else { s with bus := wrcmd (BitVec.ofNat 32 w) :: s.bus }

end Sys2Proof.Machine
end

