-- ==== Sys2Proof/Safety.lean ====
section
/-! DEFINITION. What counts as a safe run. Nothing stops the BCU, so safety is the driver's bring-up
duty (70_reset_and_hazards.md R384): a command reads only elements written since reset (R38). The
machine runs the others too, on the values reset left (log 1); this file says which they are. -/

namespace Sys2Proof.Machine

/-- Every byte of `BLK` from `lo` up to but not including `hi` has been written. -/
def Written.blkRange (w : Written) (lo hi : Nat) : Bool :=
  (List.finRange 16).all fun j : Fin 16 => !(decide (lo ≤ j.val) && decide (j.val < hi)) || w.blk[j]

/-- Channel `c` of every pixel of `PIX8` has been written. -/
def Written.channel (w : Written) (c : Channel) : Bool :=
  (List.finRange 16).all fun i : Fin 16 => (w.pix8[i]).get c

/-- The bytes a cursor read of `n` bits touches have been written; a read that is refused, or of no
bits, touches none (40_bitcursor.md R121). -/
def Written.cursorRead (w : Written) (L n pos : Nat) : Bool :=
  n = 0 || decide (n > 8) || decide (pos + n > L) ||
    w.blkRange (pos / 8) ((pos + n - 1) / 8 + 1)

/-- Every `BLK` and `PIX8` element the instruction reads at `s` (10_state.md R36) has been written
since reset: what R384 asks of the driver before a command. -/
def ready (i : Instr) (s : State) : Bool :=
  match i with
  | .nop => true
  | .clrw => true
  | .reservedCmd _ => true
  | .getbit w64 => s.written.cursorRead (cursorLimit w64) 1 s.pos.toNat
  | .getbits n w64 => s.written.cursorRead (cursorLimit w64) n.toNat s.pos.toNat
  | .decBc1 _ => s.written.blkRange 0 8
  | .decBc4 _ _ => s.written.blkRange 0 8
  | .encBc4 _ chan => s.written.channel chan
  | .encBc5 _ => s.written.channel .r && s.written.channel .g
  | .decBc2 => s.written.blkRange 0 16
  | .decBc3 => s.written.blkRange 0 16
  | .decBc5 _ => s.written.blkRange 0 16
  | .decBc6h _ => s.written.blkRange 0 16
  | .decBc7 => s.written.blkRange 0 16
  | .bc6hMode1 _ => s.written.blkRange 0 16
  | .bc6hMode2 _ => s.written.blkRange 0 16
  | .bc6hMode3 _ => s.written.blkRange 0 16
  | .bc6hMode4 _ => s.written.blkRange 0 16
  | .bc6hMode5 _ => s.written.blkRange 0 16
  | .bc6hMode6 _ => s.written.blkRange 0 16
  | .bc6hMode7 _ => s.written.blkRange 0 16
  | .bc6hMode8 _ => s.written.blkRange 0 16
  | .bc6hMode9 _ => s.written.blkRange 0 16
  | .bc6hMode10 _ => s.written.blkRange 0 16
  | .bc6hMode11 _ => s.written.blkRange 0 16
  | .bc6hMode12 _ => s.written.blkRange 0 16
  | .bc6hMode13 _ => s.written.blkRange 0 16
  | .bc6hMode14 _ => s.written.blkRange 0 16
  | .bc6hReserved13 _ => s.written.blkRange 0 16
  | .bc6hReserved17 _ => s.written.blkRange 0 16
  | .bc6hReserved1B _ => s.written.blkRange 0 16
  | .bc6hReserved1F _ => s.written.blkRange 0 16
  | .bc7Mode0 => s.written.blkRange 0 16
  | .bc7Mode1 => s.written.blkRange 0 16
  | .bc7Mode2 => s.written.blkRange 0 16
  | .bc7Mode3 => s.written.blkRange 0 16
  | .bc7Mode4 => s.written.blkRange 0 16
  | .bc7Mode5 => s.written.blkRange 0 16
  | .bc7Mode6 => s.written.blkRange 0 16
  | .bc7Mode7 => s.written.blkRange 0 16
  | .bc7Reserved => s.written.blkRange 0 16

/-- A step is safe when the command it executes, if any, is ready. -/
def safeStep (s : State) : Bool :=
  match s.serve with
  | .settled _ => true
  | .run i t => ready i t

/-- A run of `n` steps is safe when each of its steps is. -/
def safeRun : Nat → State → Bool
  | 0, _ => true
  | n + 1, s =>
    safeStep s &&
      match step s with
      | .next t => safeRun n t
      | .fault _ => false
      | .refused _ => false

end Sys2Proof.Machine
end

