-- ==== Sys2Proof/Certificates/Slice0/Obligations.lean ====
section
/-! DEFINITION. The statements for the provers. -/

open Sys2Proof Sys2Proof.Machine

namespace Sys2Proof.Machine

/-! ## Words the statements use -/

/-- An instruction answers a next state of which `P` holds. -/
def Completes (i : Instr) (s : State) (P : State → Prop) : Prop :=
  ∃ t, exec i s = .next t ∧ P t

/-- What no command touches: `CMD` (written before it, R82) and the host's side. -/
def KeepsHostSide (s t : State) : Prop := t.cmd = s.cmd ∧ t.bus = s.bus ∧ t.rdata = s.rdata

/-- The frame of an error-free decode to `PIX8`: everything but `PIX8`, `POS` and `STAT`. -/
def KeepsAllButPix8 (s t : State) : Prop :=
  t.blk = s.blk ∧ t.pixh = s.pixh ∧ t.val = s.val ∧ t.warn = s.warn ∧ t.fatal = s.fatal ∧
    KeepsHostSide s t

/-- The frame of an error-free decode to `PIXH`: everything but `PIXH`, `POS` and `STAT`. -/
def KeepsAllButPixh (s t : State) : Prop :=
  t.blk = s.blk ∧ t.pix8 = s.pix8 ∧ t.val = s.val ∧ t.warn = s.warn ∧ t.fatal = s.fatal ∧
    KeepsHostSide s t

/-- The frame of an encode: everything but `BLK`, `POS` and `STAT`. -/
def KeepsAllButBlk (s t : State) : Prop :=
  t.pix8 = s.pix8 ∧ t.pixh = s.pixh ∧ t.val = s.val ∧ t.warn = s.warn ∧ t.fatal = s.fatal ∧
    KeepsHostSide s t

/-- A command ended without an error and left the cursor at `p` (R29, R82). -/
def EndsAt (t : State) (p : Nat) : Prop := t.pos.toNat = p ∧ t.stat = 0

/-- The layout rows of the valid BC6H modes, with the table row each decodes by (R222). -/
def bc6hRows (sgn : Bool) : List (Instr × Bc6hMode) :=
  [(.bc6hMode1 sgn, bc6hInfo1), (.bc6hMode2 sgn, bc6hInfo2), (.bc6hMode3 sgn, bc6hInfo3),
   (.bc6hMode4 sgn, bc6hInfo4), (.bc6hMode5 sgn, bc6hInfo5), (.bc6hMode6 sgn, bc6hInfo6),
   (.bc6hMode7 sgn, bc6hInfo7), (.bc6hMode8 sgn, bc6hInfo8), (.bc6hMode9 sgn, bc6hInfo9),
   (.bc6hMode10 sgn, bc6hInfo10), (.bc6hMode11 sgn, bc6hInfo11), (.bc6hMode12 sgn, bc6hInfo12),
   (.bc6hMode13 sgn, bc6hInfo13), (.bc6hMode14 sgn, bc6hInfo14)]

/-- The layout rows of the reserved BC6H codes, with their codes (R225). -/
def bc6hReservedRows (sgn : Bool) : List (Instr × Nat) :=
  [(.bc6hReserved13 sgn, 0x13), (.bc6hReserved17 sgn, 0x17), (.bc6hReserved1B sgn, 0x1B),
   (.bc6hReserved1F sgn, 0x1F)]

/-- The layout rows of the BC7 modes, with the table row each decodes by (R262). -/
def bc7Rows : List (Instr × Bc7Mode) :=
  [(.bc7Mode0, bc7Info0), (.bc7Mode1, bc7Info1), (.bc7Mode2, bc7Info2), (.bc7Mode3, bc7Info3),
   (.bc7Mode4, bc7Info4), (.bc7Mode5, bc7Info5), (.bc7Mode6, bc7Info6), (.bc7Mode7, bc7Info7)]

/-- The field `f` of a BC6H header as a number: block bit `p` counts `2 ^ j` where the descriptor gives
it bit `j` of `f` (R224, R230). -/
def gathered (info : Bc6hMode) (b : Block) (f : HeaderField) : Nat :=
  ((List.range info.hdr).map fun p =>
    match headerEntry info.desc p with
    | some (g, j) => if g = f then b.bit p * 2 ^ j else 0
    | none => 0).sum

/-- The width of the index field of pixel `i` (R178, R236, R272). -/
def fieldWidth (ip : IndexPrec) (t : Tier) (shape i : Nat) : Nat :=
  if isFixup t shape i then ip.bits - 1 else ip.bits

/-- The bits the index fields of pixels `0 .. i - 1` take. -/
def fieldOffset (ip : IndexPrec) (t : Tier) (shape i : Nat) : Nat :=
  ((List.range i).map (fieldWidth ip t shape)).sum

/-- The primary index plane of a BC7 block from bit `p` to bit `q`: the field of pixel `i` follows those of
the pixels before it (R104). -/
def primaryFrom (info : Bc7Mode) (b : Block) (shape p q : Nat) : Prop :=
  ∃ w : List Nat, bc7Primary info b shape p = .ok w q ∧ w.length = 16 ∧
    ∀ i < 16, w.getD i 0 =
      b.memRead (p + fieldOffset info.ip info.tier shape i) (fieldWidth info.ip info.tier shape i)

/-- The secondary index plane of a BC7 block from bit `p` to bit 128, indices of `n` bits, the first one
bit shorter (R104). -/
def secondaryFrom (info : Bc7Mode) (b : Block) (n p : Nat) : Prop :=
  ∃ w : List Nat, bc7Secondary info b p = .ok w 128 ∧ w.length = 16 ∧
    w.getD 0 0 = b.memRead p (n - 1) ∧ ∀ i, 1 ≤ i → i < 16 →
      w.getD i 0 = b.memRead (p + (n * i - 1)) n

/-- Sum of squared differences of two sample lists. -/
def squaredError (v d : List Nat) : Nat := (List.zipWith (fun x y => absDiff x y ^ 2) v d).sum

/-- `m` is the least element of a list. -/
def leastOf (m : Nat) (l : List Nat) : Prop := m ∈ l ∧ ∀ x ∈ l, m ≤ x

/-- `m` is the greatest element of a list. -/
def greatestOf (m : Nat) (l : List Nat) : Prop := m ∈ l ∧ ∀ x ∈ l, x ≤ m

/-- What the status registers say of each other in every state a run can reach (10_state.md R29, R30,
R31; 60_exceptions.md R340, R346). -/
def StatusInv (s : State) : Prop :=
  s.stat.toNat < 2 ^ 16 ∧ s.stat.toNat % 256 ≤ 5 ∧ s.warn.toNat < 16 ∧
    (s.fatal = true ↔ s.statCause = 4) ∧
    (s.statCause = 0 → s.stat = 0) ∧
    (s.statCause = 1 → s.warn.getLsbD 0 = true) ∧
    (s.statCause = 2 → s.warn.getLsbD 1 = true) ∧
    (s.statCause = 3 → s.warn.getLsbD 2 = true) ∧
    (s.statCause = 4 → 9 ≤ s.statInfo) ∧
    (s.statCause = 5 → s.warn.getLsbD 3 = true)

/-- Two states that agree on everything but the elements never written since reset (R38). -/
def AgreeWhereWritten (s t : State) : Prop :=
  s.written = t.written ∧
    (∀ j : Fin 16, s.written.blk[j] = true → s.blk[j] = t.blk[j]) ∧
    (∀ (i : Fin 16) (c : Channel),
      (s.written.pix8[i]).get c = true → (s.pix8[i]).get c = (t.pix8[i]).get c) ∧
    (s.written.pixh = true → s.pixh = t.pixh) ∧
    (s.written.val = true → s.val = t.val) ∧
    s.pos = t.pos ∧ s.cmd = t.cmd ∧ s.stat = t.stat ∧ s.warn = t.warn ∧ s.fatal = t.fatal ∧
    s.bus = t.bus ∧ s.rdata = t.rdata

/-- The instructions that may write `BLK` (10_state.md R36). -/
def mayWriteBlk : Instr → Bool
  | .encBc4 _ _ => true
  | .encBc5 _ => true
  | _ => false

/-- The instructions that may write `VAL` (R36). -/
def mayWriteVal : Instr → Bool
  | .getbit _ => true
  | .getbits _ _ => true
  | _ => false

/-- The instructions that may write `PIXH`: `DEC_BC6H` and its layout rows (R36). -/
def mayWritePixh (i : Instr) : Bool :=
  [true, false].any fun sgn =>
    i == .decBc6h sgn || ((bc6hRows sgn).map Prod.fst).contains i ||
      ((bc6hReservedRows sgn).map Prod.fst).contains i

/-- The instructions that may write `PIX8`: the decoders to it, with the BC7 layout rows (R36). -/
def mayWritePix8 (i : Instr) : Bool :=
  match i with
  | .decBc1 _ => true
  | .decBc2 => true
  | .decBc3 => true
  | .decBc4 _ _ => true
  | .decBc5 _ => true
  | .decBc7 => true
  | .bc7Reserved => true
  | i => (bc7Rows.map Prod.fst).contains i

/-- The instructions that leave `POS` alone (R36, R344). -/
def keepsPos : Instr → Bool
  | .nop => true
  | .clrw => true
  | .reservedCmd _ => true
  | _ => false

/-- The instructions that can raise no error (R36, R192, R316, R341). -/
def raisesNothing : Instr → Bool
  | .nop => true
  | .clrw => true
  | .decBc1 _ => true
  | .decBc2 => true
  | .decBc3 => true
  | .decBc4 _ _ => true
  | .decBc5 _ => true
  | .encBc4 _ _ => true
  | .encBc5 _ => true
  | _ => false

/-- The commands and layout rows that decode or encode a block. -/
def isCodec (i : Instr) : Bool := mayWriteBlk i || mayWritePix8 i || mayWritePixh i

end Sys2Proof.Machine

/-- Thirteen command words written from the fields of R80 and the codes of R81, two reserved
words, and four prefix bytes of R101 and R103 decode to the instructions they stand for.
(30_encoding.md sections 1 to 5, 95_test_vectors.md part 2; derived) -/
def Obligations.SampleWordsDecodeToTheirInstructions : Prop :=
  decodeWord 0x00000000 = .nop ∧ decodeWord 0x00000001 = .clrw ∧
    decodeWord 0x00100008 = .getbit true ∧ decodeWord 0x00000509 = .getbits 5 false ∧
    decodeWord 0x00040011 = .decBc1 true ∧ decodeWord 0x000F0012 = .decBc2 ∧
    decodeWord 0x00000013 = .decBc3 ∧ decodeWord 0x00028014 = .decBc4 128 .b ∧
    decodeWord 0x00008015 = .decBc5 128 ∧ decodeWord 0x00080016 = .decBc6h true ∧
    decodeWord 0x00000017 = .decBc7 ∧ decodeWord 0x00030024 = .encBc4 0 .a ∧
    decodeWord 0x00000025 = .encBc5 0 ∧
    decodeWord 0x00000002 = .reservedCmd 0x00000002 ∧
    decodeWord 0x00200011 = .reservedCmd 0x00200011 ∧
    bc6hLayout false 0x0F = .bc6hMode14 false ∧ bc6hLayout true 0xF3 = .bc6hReserved13 true ∧
    bc7Layout 0xA0 = .bc7Mode5 ∧ bc7Layout 0x00 = .bc7Reserved

/-- For every well-formed instruction i, decode (encode i) is i: no bit of an operand is dropped
by either direction. (30_encoding.md sections 1 to 5; derived) -/
def Obligations.DecodingAnEncodingGivesTheInstruction : Prop :=
  ∀ i : Instr, i.wellFormed = true → decode (encode i) = .ok i

/-- For every op below 256 and every value of the fields arg, chan, f4, sgn, w64, the word with
these fields (bits 31:21 zero) decodes to the row of R81 with code op and the operands that row
uses, whatever the other fields hold; a code outside the table decodes to the reserved command. A
word with a nonzero bit in 31:21 is reserved. (R81; stated) -/
def Obligations.CommandWordFieldsSelectTheInstruction : Prop :=
  (∀ (op : Nat) (arg : Byte) (c : Channel) (f4 sgn w64 : Bool), op < 256 →
    let w : Word := BitVec.ofNat 32 (op + 2 ^ 8 * arg.toNat + 2 ^ 16 * c.number +
      2 ^ 18 * f4.toNat + 2 ^ 19 * sgn.toNat + 2 ^ 20 * w64.toNat)
    (op = 0x00 → decodeWord w = .nop) ∧ (op = 0x01 → decodeWord w = .clrw) ∧
      (op = 0x08 → decodeWord w = .getbit w64) ∧ (op = 0x09 → decodeWord w = .getbits arg w64) ∧
      (op = 0x11 → decodeWord w = .decBc1 f4) ∧ (op = 0x12 → decodeWord w = .decBc2) ∧
      (op = 0x13 → decodeWord w = .decBc3) ∧ (op = 0x14 → decodeWord w = .decBc4 arg c) ∧
      (op = 0x15 → decodeWord w = .decBc5 arg) ∧ (op = 0x16 → decodeWord w = .decBc6h sgn) ∧
      (op = 0x17 → decodeWord w = .decBc7) ∧ (op = 0x24 → decodeWord w = .encBc4 arg c) ∧
      (op = 0x25 → decodeWord w = .encBc5 arg) ∧
      (op ∉ [0x00, 0x01, 0x08, 0x09, 0x11, 0x12, 0x13, 0x14, 0x15, 0x16, 0x17, 0x24, 0x25] →
        decodeWord w = .reservedCmd w)) ∧
    ∀ w : Word, 2 ^ 21 ≤ w.toNat → decodeWord w = .reservedCmd w

/-- No word matches two of the thirteen (match, mask) rows of the opcode table; a word matches
some row exactly when it is not reserved; and the decoder answers the reserved command exactly for
the reserved words. (30_encoding.md sections 1 and 2, opcode_table.json; derived) -/
def Obligations.CommandRowsPartitionTheCommandWords : Prop :=
  ∀ w : Word,
    (∀ r₁ ∈ commandRows, ∀ r₂ ∈ commandRows, w &&& r₁.2 = r₁.1 → w &&& r₂.2 = r₂.1 → r₁ = r₂) ∧
    ((∃ r ∈ commandRows, w &&& r.2 = r.1) ↔ isReservedWord w = false) ∧
    (decodeWord w = .reservedCmd w ↔ isReservedWord w = true) ∧
    (decodeWord w).wellFormed = true

/-- For every state, executing DEC_BC6H or DEC_BC7 is executing the layout row that the mode
prefix in the first byte of BLK selects (R100, R101, R103), although the command reads the mode
through the bit cursor. That the rows are instructions of their own is the model's reading of the
opcode table (log 5). (30_encoding.md sections 4 and 5, 44_bc6h_decode.md section 3,
45_bc7_decode.md section 2; derived) -/
def Obligations.DecodeCommandsRunTheLayoutRowOfTheirPrefix : Prop :=
  ∀ (i j : Instr) (s : State), layoutOf i s.blk[0] = some j → exec i s = exec j s

/-- If the oldest pending access is a write of w to the CMD offset 0x10 and FATAL is 0, then step
is exec of decodeWord w at the state with that access taken and CMD holding w. (That accesses wait
in a list of the state is the model's choice, log 2.) (30_encoding.md section 1, 10_state.md
section 5; derived) -/
def Obligations.StepRunsTheCommandTheHostWrites : Prop :=
  ∀ (s : State) (w : Word) (rest : List HostAccess), s.bus = .write 0x10 w :: rest →
    s.fatal = false → step s = exec (decodeWord w) { s with bus := rest, cmd := w }

/-- With FATAL 0: the decoder reads an instruction from every table word; after withFetchWord of a
word of more than 16 bits, step is exec of that instruction; after withFetchWord of a word of 8 to
16 bits, step is exec of the layout row the decoder reads, at the state with the block loaded; and
the zero word of 9 to 16 bits reads as BC7_RESERVED. That withFetchWord stands for the host's
load, and which command reads a prefix word, is the model's choice (log 6, log 7). (30_encoding.md
sections 1, 4 and 5; derived) -/
def Obligations.FetchWordRunsTheDecodedTableWord : Prop :=
  ∀ s : State, s.fatal = false →
    (∀ nbits w, 16 < nbits → ∃ i, decodeTableWord nbits w = some i ∧
      step (s.withFetchWord nbits w) = exec i { s with cmd := BitVec.ofNat 32 w }) ∧
    (∀ nbits w, 8 ≤ nbits → nbits ≤ 16 → ∃ i, decodeTableWord nbits w = some i ∧
      step (s.withFetchWord nbits w) =
        exec i { s.withFetchWord nbits w with bus := s.bus, cmd := tablePrefixCommand nbits w }) ∧
    ∀ nbits, 9 ≤ nbits → nbits ≤ 16 → decodeTableWord nbits 0 = some .bc7Reserved

/-- For every state the step answers a next state; with no access pending that is the same state,
otherwise exactly the oldest access is taken from the list. (That accesses wait in a list of the
state, that one step takes exactly the oldest and that a step with none pending keeps the state is
the model's choice, log 2.) (60_exceptions.md sections 2 and 3, 70_reset_and_hazards.md section 5,
20_memory.md section 7; derived) -/
def Obligations.StepAlwaysAnswersANextState : Prop :=
  ∀ s : State, ∃ t, step s = .next t ∧ t.bus = s.bus.tail ∧ (s.bus = [] → t = s)

/-- If the oldest access is a read of an offset, the step changes only the list and the read-data
lane, which takes the value of the element of R32 at that offset, or 0 if no element has that
offset. (That an offset inside an element, 0x11 to 0x13, 0x15 to 0x17 or an odd one of PIXH, reads
0 is the model's choice, log 3, marked unsafe; the lane is the model's own field, log 3; that
accesses wait in a list is log 2.) (10_state.md section 5; derived) -/
def Obligations.HostReadsFollowTheRegisterMap : Prop :=
  ∀ (s : State) (off : Nat) (rest : List HostAccess), s.bus = .read off :: rest →
    ∃ v : Word, step s = .next { s with bus := rest, rdata := v } ∧
      (∀ i : Fin 16, off = i.val → v.toNat = (s.blk[i]).toNat) ∧
      (off = 0x10 → v = s.cmd) ∧ (off = 0x14 → v = s.stat) ∧
      (off = 0x18 → v.toNat = s.pos.toNat) ∧ (off = 0x19 → v.toNat = s.val.toNat) ∧
      (off = 0x1A → v.toNat = s.warn.toNat) ∧ (off = 0x1B → v.toNat = s.fatal.toNat) ∧
      (∀ (i : Fin 16) (c : Channel), off = 0x40 + 4 * i.val + c.number →
        v.toNat = ((s.pix8[i]).get c).toNat) ∧
      (∀ (i : Fin 16) (c : Channel), off = 0x80 + 8 * i.val + 2 * c.number →
        v.toNat = ((s.pixh[i]).get c).toNat) ∧
      ((∀ r : HostReg, r.offset ≠ off) → v = 0)

/-- If the oldest access writes v to an offset other than that of CMD, the step leaves every
register as it was except: the byte of BLK, POS, or the channel of PIX8 whose offset it is takes
the low 8 bits of v. Read-only registers and unmapped offsets ignore the write. (That a write
takes the low 8 bits of the lane, and that an offset inside an element, 0x11 to 0x13, 0x15 to 0x17
or an odd one of PIXH, ignores it, is the model's choice, log 3, marked unsafe; that accesses wait
in a list is log 2.) (10_state.md section 5; derived) -/
def Obligations.HostWritesChangeOnlyTheWritableElement : Prop :=
  ∀ (s : State) (off : Nat) (v : Word) (rest : List HostAccess), s.bus = .write off v :: rest →
    off ≠ 0x10 →
    ∃ t, step s = .next t ∧ t.bus = rest ∧
      (∀ j : Fin 16, t.blk[j] = if off = j.val then v.setWidth 8 else s.blk[j]) ∧
      (t.pos = if off = 0x18 then v.setWidth 8 else s.pos) ∧
      (∀ (i : Fin 16) (c : Channel), (t.pix8[i]).get c =
        if off = 0x40 + 4 * i.val + c.number then v.setWidth 8 else (s.pix8[i]).get c) ∧
      t.pixh = s.pixh ∧ t.val = s.val ∧ t.cmd = s.cmd ∧ t.stat = s.stat ∧ t.warn = s.warn ∧
      t.fatal = s.fatal ∧ t.rdata = s.rdata

/-- In the reset state, and after a reset access in any state, POS, CMD, STAT, WARN and FATAL are
0; the step from the reset state changes nothing. (R380 gives the five values and R381 makes reset
an event; that it is an access of the list which keeps the accesses pending behind it is the
model's choice, log 15, and so is the idle step, log 2.) (70_reset_and_hazards.md section 1,
10_state.md section 9; derived) -/
def Obligations.ResetLeavesTheControlRegistersZero : Prop :=
  (State.reset.pos = 0 ∧ State.reset.cmd = 0 ∧ State.reset.stat = 0 ∧ State.reset.warn = 0 ∧
      State.reset.fatal = false) ∧
    step State.reset = .next State.reset ∧
    ∀ (s : State) (rest : List HostAccess), s.bus = .reset :: rest →
      ∃ t, step s = .next t ∧ t.pos = 0 ∧ t.cmd = 0 ∧ t.stat = 0 ∧ t.warn = 0 ∧ t.fatal = false ∧
        t.bus = rest

/-- While FATAL is 1 the step of a CMD write changes only CMD; no step but that of a reset access
clears FATAL; a step sets FATAL only when it leaves STAT.cause at CONTRACT, and GETBITS with n
above 8 does set it; a host read of offset 0x1B gives 0 or 1 in the low 8 bits, and a host write
there is ignored. (R31; stated) -/
def Obligations.FatalDisablesCommandsUntilReset : Prop :=
  (∀ (s : State) (w : Word) (rest : List HostAccess), s.bus = .write 0x10 w :: rest →
    s.fatal = true → step s = .next { s with bus := rest, cmd := w }) ∧
  (∀ s t : State, step s = .next t → s.fatal = true → s.bus.head? ≠ some .reset →
    t.fatal = true) ∧
  (∀ s t : State, step s = .next t → s.fatal = false → t.fatal = true → t.statCause = 4) ∧
  (∀ (s : State) (n : Byte) (w64 : Bool), 8 < n.toNat →
    Completes (.getbits n w64) s fun t => t.fatal = true) ∧
  (∀ s : State, s.hostRead 0x1B = if s.fatal then 1 else 0) ∧
  ∀ (s : State) (v : Word), s.hostWrite 0x1B v = s

/-- Executing NOP gives the same state with STAT 0; under FATAL = 1 the step of a NOP word changes
only CMD. (R330; stated) -/
def Obligations.NopClearsOnlyStat : Prop :=
  (∀ s : State, exec .nop s = .next { s with stat := 0 }) ∧
    ∀ (s : State) (rest : List HostAccess), s.bus = .write 0x10 0 :: rest → s.fatal = true →
      step s = .next { s with bus := rest, cmd := 0 }

/-- Executing CLRW gives the same state with WARN 0 and STAT 0. (R331; stated) -/
def Obligations.ClrwClearsWarnAndStat : Prop :=
  ∀ s : State, exec .clrw s = .next { s with warn := 0, stat := 0 }

/-- For every reserved word w, executing it gives the same state with STAT = op * 256 + 5 and WARN
with bit 3 set; and the step of a host write of w to CMD with FATAL 0 does so with CMD holding w.
(R344; stated) -/
def Obligations.ReservedCommandsRaiseBadCmd : Prop :=
  ∀ (w : Word) (s : State), isReservedWord w = true →
    exec (.reservedCmd w) s = .next
      { s with stat := BitVec.ofNat 32 (w.toNat % 256 * 256 + 5), warn := s.warn ||| 8 } ∧
    ∀ rest : List HostAccess, s.bus = .write 0x10 w :: rest → s.fatal = false →
      step s = .next
        { s with
          bus := rest, cmd := w
          stat := BitVec.ofNat 32 (w.toNat % 256 * 256 + 5), warn := s.warn ||| 8 }

/-- With L = 64 or 128 by w64: if POS + 1 <= L, VAL is bit POS mod 8 of BLK[POS div 8], POS grows
by 1, STAT is 0; otherwise VAL is 0, STAT is POS * 256 + 2, WARN bit 1 is set. Nothing else
changes (but the model's own record that VAL was written, log 4). (R124; stated) -/
def Obligations.GetbitReadsOneBitOrOverruns : Prop :=
  ∀ (w64 : Bool) (s : State),
    let L := if w64 then 64 else 128
    let p := s.pos.toNat
    (p + 1 ≤ L → exec (.getbit w64) s = .next
      { s with
        val := BitVec.ofNat 8 (s.blk.byte (p / 8) / 2 ^ (p % 8) % 2)
        pos := BitVec.ofNat 8 (p + 1)
        stat := 0
        written := { s.written with val := true } }) ∧
    (p + 1 > L → exec (.getbit w64) s = .next
      { s with
        val := 0
        stat := BitVec.ofNat 32 (p * 256 + 2)
        warn := s.warn ||| 2
        written := { s.written with val := true } })

/-- With L = 64 or 128 by w64: n > 8 raises CONTRACT (STAT = n * 256 + 4, FATAL 1, VAL, POS, WARN
kept); n = 0 writes VAL 0 and leaves POS whatever it is; 1 <= n <= 8 with POS + n > L raises
OVERRUN (VAL 0, POS kept, STAT = POS * 256 + 2, WARN bit 1); otherwise VAL is (V >> POS) mod 2^n
with V the block as a little-endian integer and POS grows by n. (R125 and R121 give the value as
MemRead; that this is (V >> POS) mod 2^n is R54, which the spec marks as its own derivation. The
record that VAL was written is the model's own, log 4.) (40_bitcursor.md sections 1 and 2,
20_memory.md section 2; derived) -/
def Obligations.GetbitsReadsAFieldOrRaises : Prop :=
  ∀ (n : Byte) (w64 : Bool) (s : State),
    let L := if w64 then 64 else 128
    let p := s.pos.toNat
    (8 < n.toNat → exec (.getbits n w64) s = .next
      { s with stat := BitVec.ofNat 32 (n.toNat * 256 + 4), fatal := true }) ∧
    (n.toNat = 0 → exec (.getbits n w64) s = .next
      { s with val := 0, stat := 0, written := { s.written with val := true } }) ∧
    (1 ≤ n.toNat → n.toNat ≤ 8 → p + n.toNat > L → exec (.getbits n w64) s = .next
      { s with
        val := 0
        stat := BitVec.ofNat 32 (p * 256 + 2)
        warn := s.warn ||| 2
        written := { s.written with val := true } }) ∧
    (1 ≤ n.toNat → n.toNat ≤ 8 → p + n.toNat ≤ L → exec (.getbits n w64) s = .next
      { s with
        val := BitVec.ofNat 8 (s.blk.toInt / 2 ^ p % 2 ^ n.toNat)
        pos := BitVec.ofNat 8 (p + n.toNat)
        stat := 0
        written := { s.written with val := true } })

/-- For every block, V = toInt is the sum of BLK[j] << 8j, and for every p and n with p + n <= 128
the field read bit by bit, MemRead(p, n), is (V >> p) mod 2^n. (The spec marks this as its own
derivation.) (20_memory.md section 2; derived) -/
def Obligations.FieldReadsAreSlicesOfTheLittleEndianBlock : Prop :=
  ∀ b : Block, b.toInt = ((List.range 16).map fun j => b.byte j * 2 ^ (8 * j)).sum ∧
    ∀ p n : Nat, p + n ≤ 128 → b.memRead p n = b.toInt / 2 ^ p % 2 ^ n

/-- For every block and p + n <= 128: after MemWrite each block bit q is bit q - p of v if p <= q
< p + n and is unchanged otherwise, and MemRead(p, n) gives v mod 2^n. (The spec marks this as its
own derivation.) (20_memory.md section 1; derived) -/
def Obligations.FieldWritesChangeExactlyTheFieldsBits : Prop :=
  ∀ (b : Block) (p n v : Nat), p + n ≤ 128 →
    (∀ q < 128, (b.memWrite p n v).bit q =
      if p ≤ q ∧ q < p + n then v / 2 ^ (q - p) % 2 else b.bit q) ∧
    (b.memWrite p n v).memRead p n = v % 2 ^ n

/-- For L = 64 or 128, 1 <= n <= 8 and POS + n <= L: n successive getBit calls succeed, leave POS
+ n, and getBits(n) returns the sum of b_k << k with the same cursor. And any sequence of getBits
calls from 0 with widths at most 8 summing to 128 succeeds, the i-th value is (V >> s_i) mod
2^(n_i), and the sum of v_i << s_i is V. (The spec marks this as its own derivation.)
(40_bitcursor.md section 1, 20_memory.md section 2; derived) -/
def Obligations.GetBitsComposesFromSingleBitsAndRebuildsTheBlock : Prop :=
  (∀ (b : Block) (L n pos : Nat), L = 64 ∨ L = 128 → 1 ≤ n → n ≤ 8 → pos + n ≤ L →
    ∃ bits : List Nat, readBits b L n pos = .ok bits (pos + n) ∧ bits.length = n ∧
      getBits b L n pos =
        .ok ((List.range n).map fun k => bits.getD k 0 * 2 ^ k).sum (pos + n)) ∧
  ∀ (b : Block) (ns : List Nat), (∀ n ∈ ns, n ≤ 8) → ns.sum = 128 →
    ∃ vs : List Nat, readFields b ns 0 = .ok vs 128 ∧ vs.length = ns.length ∧
      (∀ i < ns.length, vs.getD i 0 = b.toInt / 2 ^ (ns.take i).sum % 2 ^ ns.getD i 0) ∧
      ((List.range ns.length).map fun i => vs.getD i 0 * 2 ^ (ns.take i).sum).sum = b.toInt

/-- For e0, e1 in 0..255 pal8 has eight entries of 0..255. If e0 > e1: P[0] = e0, P[1] = e1,
P[1+k] = floor(((7-k) e0 + k e1) / 7) for k = 1..6, and P[0] > P[2] >= ... >= P[7] >= P[1].
Otherwise P[0] = e0, P[1] = e1, P[1+k] = floor(((5-k) e0 + k e1) / 5) for k = 1..4, P[6] = 0, P[7]
= 255, and P[0] <= P[2] <= ... <= P[5] <= P[1]. (No rounding term: the spec's own decision D12.)
(41_palette_math.md section 3; derived) -/
def Obligations.Bc4PaletteIsTheFlooredBlend : Prop :=
  ∀ e0 e1 : Nat, e0 ≤ 255 → e1 ≤ 255 →
    let P := fun k => (pal8 e0 e1).getD k 0
    (pal8 e0 e1).length = 8 ∧ (∀ x ∈ pal8 e0 e1, x ≤ 255) ∧ P 0 = e0 ∧ P 1 = e1 ∧
    (e0 > e1 →
      (∀ k, 1 ≤ k → k ≤ 6 → P (1 + k) = ((7 - k) * e0 + k * e1) / 7) ∧ P 0 > P 2 ∧
        (∀ k, 2 ≤ k → k ≤ 6 → P k ≥ P (k + 1)) ∧ P 7 ≥ P 1) ∧
    (e0 ≤ e1 →
      (∀ k, 1 ≤ k → k ≤ 4 → P (1 + k) = ((5 - k) * e0 + k * e1) / 5) ∧ P 6 = 0 ∧ P 7 = 255 ∧
        P 0 ≤ P 2 ∧ (∀ k, 2 ≤ k → k ≤ 4 → P k ≤ P (k + 1)) ∧ P 5 ≤ P 1)

/-- For all integers a, b, every precision and every index below 2^prec: interp(a, b, idx, prec)
is the floor of (a (64 - w) + b w + 32) / 64 with w the entry idx of W2, W3 or W4 as printed in
R140 and R141; it lies between min(a, b) and max(a, b), is a at index 0, b at the last index, and
a when a = b. (41_palette_math.md sections 1 and 2; derived) -/
def Obligations.InterpolationStaysBetweenItsEndpoints : Prop :=
  ∀ (a b : Int) (idx : Nat) (prec : IndexPrec), idx < 2 ^ prec.bits →
    let printed : List Int := match prec with
      | .two => [0, 21, 43, 64]
      | .three => [0, 9, 18, 27, 37, 46, 55, 64]
      | .four => [0, 4, 9, 13, 17, 21, 26, 30, 34, 38, 43, 47, 51, 55, 60, 64]
    let w := printed.getD idx 0
    interp a b idx prec = (a * (64 - w) + b * w + 32).fdiv 64 ∧
      min a b ≤ interp a b idx prec ∧ interp a b idx prec ≤ max a b ∧
      interp a b 0 prec = a ∧ interp a b (2 ^ prec.bits - 1) prec = b ∧ interp a a idx prec = a

/-- For every precision 1..8 and c below 2^prec: unq7(c, prec) is (c << (8 - prec)) | ((c << (8 -
prec)) >> prec), is below 256 and has c as its top prec bits; unq7(0) = 0; the maximum gives 255
for prec >= 4; unq7(c, 8) = c; exp5(x) is (x << 3) | (x >> 2) for x below 32 and exp6(x) is (x <<
2) | (x >> 4) for x below 64, and they reach 0 and 255; exp4(a) = 17 a. (41_palette_math.md
sections 4 and 5; derived) -/
def Obligations.Bc7UnquantiserReplicatesTopBits : Prop :=
  (∀ prec, 1 ≤ prec → prec ≤ 8 →
    (∀ c < 2 ^ prec, unq7 c prec = (c <<< (8 - prec) ||| c <<< (8 - prec) >>> prec) ∧
      unq7 c prec < 256 ∧ unq7 c prec / 2 ^ (8 - prec) = c) ∧ unq7 0 prec = 0 ∧
      (4 ≤ prec → unq7 (2 ^ prec - 1) prec = 255)) ∧
  (∀ c < 256, unq7 c 8 = c) ∧ exp5 0 = 0 ∧ exp5 31 = 255 ∧ exp6 0 = 0 ∧ exp6 63 = 255 ∧
    (∀ x < 32, exp5 x = (x <<< 3 ||| x >>> 2)) ∧ (∀ x < 64, exp6 x = (x <<< 2 ||| x >>> 4)) ∧
    ∀ a < 16, exp4 a = a * 17

/-- For the printed tables: every row of SHAPE2_BC6H (0..31) and SHAPE2_BC7 (0..63) holds only 0
and 1 and both; every row of SHAPE3 holds only 0, 1, 2 and all three; pixel 0 is in region 0 in
every row; and in every tier and shape fix-up offset 0 is 0 and offset k is a pixel of region k.
Exactly t + 1 pixels are fix-up pixels. (The spec marks this as its own derivation.)
(42_partition_tables.md sections 3 and 4; derived) -/
def Obligations.PartitionTablesAreWellFormed : Prop :=
  (∀ shape < 32, (∀ i < 16, regionOf .bc6h .one shape i < 2) ∧
      (∃ i < 16, regionOf .bc6h .one shape i = 0) ∧ (∃ i < 16, regionOf .bc6h .one shape i = 1) ∧
      regionOf .bc6h .one shape 0 = 0) ∧
  (∀ shape < 64, (∀ i < 16, regionOf .bc7 .one shape i < 2) ∧
      (∃ i < 16, regionOf .bc7 .one shape i = 0) ∧ (∃ i < 16, regionOf .bc7 .one shape i = 1) ∧
      regionOf .bc7 .one shape 0 = 0) ∧
  (∀ shape < 64, (∀ i < 16, regionOf .bc7 .two shape i < 3) ∧
      (∃ i < 16, regionOf .bc7 .two shape i = 0) ∧ (∃ i < 16, regionOf .bc7 .two shape i = 1) ∧
      (∃ i < 16, regionOf .bc7 .two shape i = 2) ∧ regionOf .bc7 .two shape 0 = 0) ∧
  (∀ shape < 64, fixups .zero shape = [0]) ∧
  (∀ shape < 32, regionOf .bc6h .one shape ((fixups .one shape).getD 1 0) = 1) ∧
  ∀ shape < 64,
    (∃ x, fixups .one shape = [0, x] ∧ x < 16 ∧ x ≠ 0 ∧ regionOf .bc7 .one shape x = 1) ∧
    ∃ x y, fixups .two shape = [0, x, y] ∧ x < 16 ∧ y < 16 ∧ x ≠ 0 ∧ y ≠ 0 ∧ x ≠ y ∧
      regionOf .bc7 .two shape x = 1 ∧ regionOf .bc7 .two shape y = 2

/-- For every valid mode: the header has 65 or 82 bits by the tier and the descriptor names each
of them; the prefix holds the mode bits in order; each bit below pA of E[0] and below pD of the
other endpoints of the tier appears exactly once and no other endpoint bit appears; the five shape
bits appear once for two regions and never for one; hdr + 16 ip - (t + 1) = 128; and the lowest
bits of the fields stand where the rule says (d at 77 to 81, r2[0] at 65, r3[0] at 71 with two
regions; r0[0], g0[0], b0[0], r1[0], g1[0], b1[0] at 5, 15, 25, 35, 45, 55). (R223; stated) -/
def Obligations.Bc6hModeTablesAreWellFormed : Prop :=
  ∀ info ∈ bc6hModes,
    let entries := (List.range info.hdr).map (headerEntry info.desc)
    let count := fun (f : HeaderField) (j : Nat) => entries.count (some (f, j))
    let widths := fun (f : HeaderField) =>
      match f, info.tier with
      | .m, _ => info.prefixBits
      | .d, .zero => 0
      | .d, _ => 5
      | .r k, t => if k = 0 then info.pA.r else if k < t.endpoints then info.pD.r else 0
      | .g k, t => if k = 0 then info.pA.g else if k < t.endpoints then info.pD.g else 0
      | .b k, t => if k = 0 then info.pA.b else if k < t.endpoints then info.pD.b else 0
    (info.tier = .zero ∧ info.hdr = 65 ∨ info.tier = .one ∧ info.hdr = 82) ∧
    headerEntry info.desc info.hdr = none ∧ (∀ e ∈ entries, e ≠ none) ∧
    (∀ p < info.hdr, headerEntry info.desc p = some (.m, p) ↔ p < info.prefixBits) ∧
    (∀ f ∈ [HeaderField.d, .r 0, .g 0, .b 0, .r 1, .g 1, .b 1, .r 2, .g 2, .b 2, .r 3, .g 3, .b 3],
      ∀ j < 16, count f j = if j < widths f then 1 else 0) ∧
    (∀ e ∈ entries, ∀ f j, e = some (f, j) → j < widths f) ∧
    info.hdr + 16 * info.ip.bits = 128 + (info.tier.toNat + 1) ∧
    (info.tier = .one →
      (∀ j < 5, headerEntry info.desc (77 + j) = some (.d, j)) ∧
        headerEntry info.desc 65 = some (.r 2, 0) ∧ headerEntry info.desc 71 = some (.r 3, 0)) ∧
    headerEntry info.desc 5 = some (.r 0, 0) ∧ headerEntry info.desc 15 = some (.g 0, 0) ∧
    headerEntry info.desc 25 = some (.b 0, 0) ∧ headerEntry info.desc 35 = some (.r 1, 0) ∧
    headerEntry info.desc 45 = some (.g 1, 0) ∧ headerEntry info.desc 55 = some (.b 1, 0)

/-- For every row of BC7_INFO: np is 0, the number of endpoints, or the number of regions; precP
is prec + 1 on the stored channels when np > 0 and prec otherwise; every precP is at most 8; and
prefix, shape, rotation, selector, endpoint, P-bit and index fields sum to 128 bits. (R263;
stated) -/
def Obligations.Bc7ModeTableIsWellFormed : Prop :=
  ∀ info ∈ bc7Modes,
    (info.np = 0 ∨ info.np = info.tier.endpoints ∨ info.np = info.tier.toNat + 1) ∧
    (∀ c : Channel, info.precP.get c =
      if info.np > 0 ∧ info.prec.get c > 0 then info.prec.get c + 1 else info.prec.get c) ∧
    (∀ c : Channel, info.precP.get c ≤ 8 ∧ (info.prec.get c = 0 → info.precP.get c = 0)) ∧
    info.sb ≤ 8 ∧ info.rb ≤ 8 ∧ info.ib ≤ 8 ∧ info.ip.bits ∈ [2, 3, 4] ∧
    (∀ ip2, info.ip2 = some ip2 → ip2.bits ∈ [2, 3, 4]) ∧
    info.mode + 1 + info.sb + info.rb + info.ib +
        info.tier.endpoints * (info.prec.r + info.prec.g + info.prec.b + info.prec.a) + info.np +
        16 * info.ip.bits + (match info.ip2 with | some ip2 => 16 * ip2.bits - 1 | none => 0) =
      128 + (info.tier.toNat + 1)

/-- For every state and f4, DEC_BC1 completes: pixel i of PIX8 is entry MemRead(32 + 2i, 2) of
palBC1(c0, c1, f4), with c0, c1 the little-endian 16-bit colours at bits 0 and 16; POS is 64, STAT
0; BLK, PIXH, VAL, WARN, FATAL and CMD are unchanged. (R196; stated) -/
def Obligations.DecBc1WritesTheIndexedPalette : Prop :=
  ∀ (f4 : Bool) (s : State), Completes (.decBc1 f4) s fun t =>
    (∀ i : Fin 16,
      (palBc1 (s.blk.byte 0 + 256 * s.blk.byte 1) (s.blk.byte 2 + 256 * s.blk.byte 3) f4)[
          s.blk.memRead (32 + 2 * i.val) 2]?.map bytePixel = some t.pix8[i]) ∧
    EndsAt t 64 ∧ KeepsAllButPix8 s t

/-- For every 16-bit colour c, expand565(c) has as red bits 15..11 of c, as green bits 10..5, as
blue bits 4..0, each widened by copying its top bits below it, (x << 3) | (x >> 2) or (x << 2) |
(x >> 4), and alpha 255; exp5 takes 0 to 0 and 31 to 255, exp6 takes 63 to 255, and 0xF800 gives
(255, 0, 0, 255). For all 16-bit c0, c1: entries 0 and 1 of the palette are the expanded colours,
alpha 255; if c0 > c1 or f4, entries 2 and 3 are the rounded third blends with alpha 255;
otherwise entry 2 is the rounded middle with alpha 255 and entry 3 is (0, 0, 0, 0). Every channel
stays below 256. (R151, R150; stated) -/
def Obligations.Bc1PaletteHasTwoBranches : Prop :=
  (∀ c < 2 ^ 16, expand565 c =
    let five := fun x : Nat => x <<< 3 ||| x >>> 2
    let six := fun x : Nat => x <<< 2 ||| x >>> 4
    ⟨five (c >>> 11), six ((c >>> 5) % 2 ^ 6), five (c % 2 ^ 5), 255⟩) ∧
  exp5 0 = 0 ∧ exp5 31 = 255 ∧ exp6 63 = 255 ∧ expand565 0xF800 = ⟨255, 0, 0, 255⟩ ∧
  ∀ (c0 c1 : Nat) (f4 : Bool), c0 < 2 ^ 16 → c1 < 2 ^ 16 →
    let k0 := expand565 c0
    let k1 := expand565 c1
    (∀ p ∈ palBc1 c0 c1 f4, ∀ c : Channel, p.get c < 256) ∧
    ∃ k2 k3, palBc1 c0 c1 f4 = [k0, k1, k2, k3] ∧ k0.a = 255 ∧ k1.a = 255 ∧ k2.a = 255 ∧
      (c0 > c1 ∨ f4 = true → k3.a = 255 ∧ ∀ c ∈ [Channel.r, .g, .b],
        k2.get c = (2 * k0.get c + k1.get c + 1) / 3 ∧
        k3.get c = (k0.get c + 2 * k1.get c + 1) / 3) ∧
      (c0 ≤ c1 ∧ f4 = false → k3 = ⟨0, 0, 0, 0⟩ ∧ ∀ c ∈ [Channel.r, .g, .b],
        k2.get c = (k0.get c + k1.get c + 1) / 2)

/-- For every state DEC_BC2 completes: pixel i has the colour channels of the forced four-colour
BC1 block at byte 8 and alpha 17 * MemRead(4i, 4); POS is 128, STAT 0; nothing else changes.
(R200; stated) -/
def Obligations.DecBc2AddsRawAlpha : Prop :=
  ∀ s : State, Completes .decBc2 s fun t =>
    (∀ i : Fin 16,
      let rgb := decodeBc1 s.blk 8 true i
      t.pix8[i] = bytePixel ⟨rgb.r, rgb.g, rgb.b, 17 * s.blk.memRead (4 * i.val) 4⟩) ∧
    EndsAt t 128 ∧ KeepsAllButPix8 s t

/-- For every state DEC_BC3 completes: pixel i has the colour channels of the forced four-colour
BC1 block at byte 8 and as alpha the entry MemRead(16 + 3i, 3) of pal8(BLK[0], BLK[1]); POS is
128, STAT 0; nothing else changes. (R201; stated) -/
def Obligations.DecBc3AddsBc4Alpha : Prop :=
  ∀ s : State, Completes .decBc3 s fun t =>
    (∀ i : Fin 16,
      let rgb := decodeBc1 s.blk 8 true i
      t.pix8[i] = bytePixel ⟨rgb.r, rgb.g, rgb.b,
        (pal8 (s.blk.byte 0) (s.blk.byte 1)).getD (s.blk.memRead (16 + 3 * i.val) 3) 0⟩) ∧
    EndsAt t 128 ∧ KeepsAllButPix8 s t

/-- For every state, bias and channel DEC_BC4 completes: channel chan of pixel i is (P[idx] -
bias) mod 256 with P = pal8 of the biased endpoint bytes BLK[0], BLK[1] and idx the 3-bit field at
16 + 3i; the other three channels are unchanged; POS is 64, STAT 0; nothing else changes. (R199;
stated) -/
def Obligations.DecBc4WritesOneChannel : Prop :=
  ∀ (bias : Byte) (chan : Channel) (s : State), Completes (.decBc4 bias chan) s fun t =>
    (∀ i : Fin 16,
      ((pal8 ((s.blk.byte 0 + bias.toNat) % 256) ((s.blk.byte 1 + bias.toNat) % 256))[
          s.blk.memRead (16 + 3 * i.val) 3]?.map fun x => BitVec.ofNat 8 x - bias) =
        some ((t.pix8[i]).get chan) ∧
      ∀ c : Channel, c ≠ chan → (t.pix8[i]).get c = (s.pix8[i]).get c) ∧
    EndsAt t 64 ∧ KeepsAllButPix8 s t

/-- For every state and bias DEC_BC5 completes: r of pixel i comes from the half at byte 0 and g
from the half at byte 8, each as in DEC_BC4 with the same bias; b and a are unchanged; POS is 128,
STAT 0; nothing else changes. (R202; stated) -/
def Obligations.DecBc5WritesRedAndGreen : Prop :=
  ∀ (bias : Byte) (s : State), Completes (.decBc5 bias) s fun t =>
    (∀ i : Fin 16,
      ((pal8 ((s.blk.byte 0 + bias.toNat) % 256) ((s.blk.byte 1 + bias.toNat) % 256))[
          s.blk.memRead (16 + 3 * i.val) 3]?.map fun x => BitVec.ofNat 8 x - bias) =
        some (t.pix8[i]).r ∧
      ((pal8 ((s.blk.byte 8 + bias.toNat) % 256) ((s.blk.byte 9 + bias.toNat) % 256))[
          s.blk.memRead (80 + 3 * i.val) 3]?.map fun x => BitVec.ofNat 8 x - bias) =
        some (t.pix8[i]).g ∧
      (t.pix8[i]).b = (s.pix8[i]).b ∧ (t.pix8[i]).a = (s.pix8[i]).a) ∧
    EndsAt t 128 ∧ KeepsAllButPix8 s t

/-- On PIX8, DEC_BC3 gives what DEC_BC1 f4=1 on the block formed from BLK[8..15] followed by
DEC_BC4 chan=a, bias=0 on the block formed from BLK[0..7] gives; DEC_BC5 gives what DEC_BC4 chan=r
followed by DEC_BC4 chan=g on the second half gives. (The spec marks this as its own derivation.)
(43_bc1_bc5_decode.md section 3; derived) -/
def Obligations.Bc3AndBc5AreComposedOfBc1AndBc4 : Prop :=
  (∀ (s : State) (hi lo : Block), (∀ j : Fin 8, hi[j.val] = s.blk[8 + j.val]) →
    (∀ j : Fin 8, lo[j.val] = s.blk[j.val]) →
    ∃ t₁ t₂ t, exec (.decBc1 true) { s with blk := hi } = .next t₁ ∧
      exec (.decBc4 0 .a) { t₁ with blk := lo } = .next t₂ ∧ exec .decBc3 s = .next t ∧
      t.pix8 = t₂.pix8) ∧
  ∀ (s : State) (bias : Byte) (hi : Block), (∀ j : Fin 8, hi[j.val] = s.blk[8 + j.val]) →
    ∃ t₁ t₂ t, exec (.decBc4 bias .r) s = .next t₁ ∧
      exec (.decBc4 bias .g) { t₁ with blk := hi } = .next t₂ ∧ exec (.decBc5 bias) s = .next t ∧
      t.pix8 = t₂.pix8

/-- For every decode or encode command or layout row, executing it again at the state it left
answers that same state. (That a layout row has a meaning in every state, its prefix taken from
the row and not from BLK[0], is the model's reading of the opcode table, log 5.) (20_memory.md
section 4, 46_bc4_bc5_encode.md sections 5 and 6; derived) -/
def Obligations.RepeatingACodecCommandChangesNothing : Prop :=
  ∀ (i : Instr) (s t : State), isCodec i = true → exec i s = .next t → exec i t = .next t

/-- The mode table has no row for the code of a prefix byte exactly when BLK[0] & 0x13 = 0x13. If
BLK[0] & 0x13 = 0x13, DEC_BC6H (either format), and each reserved layout row in any state,
completes with all sixteen PIXH pixels (0, 0, 0, 0x3C00), POS 5, STAT = m * 256 + 1 with m the
five-bit code, WARN bit 0 set, and nothing else changed. (R228 marks the condition on BLK[0] as
its own derivation; that a layout row is an instruction of its own, which takes the code from
itself and not from BLK[0], is the model's reading, log 5.) (44_bc6h_decode.md section 3,
60_exceptions.md section 2; derived) -/
def Obligations.Bc6hBadModeBlocksGiveTheErrorBlock : Prop :=
  (∀ b0 : Byte, bc6hModeToInfo (bc6hCode b0) = none ↔ b0.toNat &&& 0x13 = 0x13) ∧
  (∀ (sgn : Bool) (s : State), (s.blk[0]).toNat &&& 0x13 = 0x13 →
    Completes (.decBc6h sgn) s fun t =>
      (∀ i : Fin 16, t.pixh[i] = ⟨0x0000, 0x0000, 0x0000, 0x3C00⟩) ∧ t.pos = 5 ∧
      t.stat = BitVec.ofNat 32 ((s.blk[0]).toNat % 32 * 256 + 1) ∧ t.warn = s.warn ||| 1 ∧
      t.blk = s.blk ∧ t.pix8 = s.pix8 ∧ t.val = s.val ∧ t.fatal = s.fatal ∧ KeepsHostSide s t) ∧
  ∀ (sgn : Bool) (s : State), ∀ row ∈ bc6hReservedRows sgn,
    Completes row.1 s fun t =>
      (∀ i : Fin 16, t.pixh[i] = ⟨0x0000, 0x0000, 0x0000, 0x3C00⟩) ∧ t.pos = 5 ∧
      t.stat = BitVec.ofNat 32 (row.2 * 256 + 1) ∧ t.warn = s.warn ||| 1 ∧
      t.blk = s.blk ∧ t.pix8 = s.pix8 ∧ t.val = s.val ∧ t.fatal = s.fatal ∧ KeepsHostSide s t

/-- If BLK[0] & 0x13 is not 0x13, DEC_BC6H completes for either format with POS 128, STAT 0, WARN
unchanged, and changes only PIXH, POS and STAT; it ends with an error exactly when BLK[0] & 0x13 =
0x13, and that error is BAD_MODE: with the printed tables it never raises OVERRUN or BAD_INDEX.
(The spec marks this as its own derivation.) (44_bc6h_decode.md section 6; derived) -/
def Obligations.ValidBc6hBlocksDecodeToBit128 : Prop :=
  ∀ (sgn : Bool) (s : State),
    ((s.blk[0]).toNat &&& 0x13 ≠ 0x13 →
      Completes (.decBc6h sgn) s fun t => EndsAt t 128 ∧ KeepsAllButPixh s t) ∧
    (Completes (.decBc6h sgn) s (fun t => t.statCause ≠ 0) ↔ (s.blk[0]).toNat &&& 0x13 = 0x13) ∧
    ∀ t : State, exec (.decBc6h sgn) s = .next t → t.statCause = 0 ∨ t.statCause = 1

/-- For every valid mode and every block the walk succeeds, ending at 128: each endpoint component
and the shape is the sum of bit(p) << j over the header bits p the descriptor gives bit j of it,
and index i is the field at hdr plus the widths of the earlier indices, its width one bit shorter
at the fix-up pixels of the shape. (30_encoding.md section 4, 44_bc6h_decode.md sections 4 and 5;
derived) -/
def Obligations.Bc6hFieldsLieWhereTheLayoutSays : Prop :=
  ∀ info ∈ bc6hModes, ∀ b : Block, ∃ (h : Header) (idx : List Nat),
    bc6hWalk info b = .ok (h, idx) 128 ∧
    h.e0 = ⟨gathered info b (.r 0), gathered info b (.g 0), gathered info b (.b 0)⟩ ∧
    h.e1 = ⟨gathered info b (.r 1), gathered info b (.g 1), gathered info b (.b 1)⟩ ∧
    h.e2 = ⟨gathered info b (.r 2), gathered info b (.g 2), gathered info b (.b 2)⟩ ∧
    h.e3 = ⟨gathered info b (.r 3), gathered info b (.g 3), gathered info b (.b 3)⟩ ∧
    h.d = gathered info b .d ∧ idx.length = 16 ∧
    ∀ i < 16, idx.getD i 0 =
      b.memRead (info.hdr + fieldOffset info.ip info.tier h.d i)
        (fieldWidth info.ip info.tier h.d i)

/-- For every valid mode, both formats and every header whose components fit their stored widths:
every component of the endpoints the mode uses lies in 0..2^pA - 1 (unsigned) or
-2^(pA-1)..2^(pA-1) - 1 (signed); E[0] is the stored value, sign-extended if signed; in an
untransformed mode pD is pA and every other endpoint is the stored value, sign-extended from pD
bits if signed; and in a transformed mode every other component is congruent mod 2^pA to its
sign-extended delta plus E[0]. sext_N(v) is congruent to v mod 2^N and lies in -2^(N-1)..2^(N-1) -
1. The unquantiser unq6h, for every width and every component of its range: unsigned, a component
of 15 bits or more passes through; else 0 gives 0, 2^bits - 1 gives 0xFFFF, and any other c
floor((c 2^16 + 0x8000) / 2^bits); signed, a component of 16 bits or more passes through; else 0
gives 0, a magnitude of 2^(bits-1) - 1 or more gives 0x7FFF, any other magnitude m floor((m 2^15 +
0x4000) / 2^(bits-1)), and the sign is put back; with at most 16 bits the unsigned result is in
0..65535, and below 16 bits the signed one in -32767..32767. (The spec marks the ranges of the
endpoints as its own derivation, and the two general formulas and the test by >= as not in its
source, G7.) (44_bc6h_decode.md section 4, 41_palette_math.md section 6; derived) -/
def Obligations.Bc6hEndpointsAreLegalUnquantiserInputs : Prop :=
  (∀ info ∈ bc6hModes, (info.transformed = false → info.pD = info.pA) ∧ ∀ (sgn : Bool) (h : Header),
    (∀ k < info.tier.endpoints, ∀ c < 3,
      let stored := [[h.e0.r, h.e0.g, h.e0.b], [h.e1.r, h.e1.g, h.e1.b],
        [h.e2.r, h.e2.g, h.e2.b], [h.e3.r, h.e3.g, h.e3.b]]
      let width := if k = 0 then [info.pA.r, info.pA.g, info.pA.b]
        else [info.pD.r, info.pD.g, info.pD.b]
      (stored.getD k []).getD c 0 < 2 ^ width.getD c 0) →
    let e := bc6hEndpoints info sgn h
    (∀ k < info.tier.endpoints,
      ∀ x ∈ [((e.get k).r, info.pA.r), ((e.get k).g, info.pA.g), ((e.get k).b, info.pA.b)],
        if sgn then -2 ^ (x.2 - 1) ≤ x.1 ∧ x.1 < 2 ^ (x.2 - 1) else 0 ≤ x.1 ∧ x.1 < 2 ^ x.2) ∧
    (e.e0 = if sgn then info.pA.zip sext (h.e0.map Int.ofNat) else h.e0.map Int.ofNat) ∧
    (info.transformed = false →
      let stored := fun x : Rgb Nat =>
        if sgn then info.pD.zip sext (x.map Int.ofNat) else x.map Int.ofNat
      e.e1 = stored h.e1 ∧ (info.tier = .one → e.e2 = stored h.e2 ∧ e.e3 = stored h.e3)) ∧
    (info.transformed = true →
      (e.e1.r - (sext info.pD.r h.e1.r + e.e0.r)) % 2 ^ info.pA.r = 0 ∧
      (e.e1.g - (sext info.pD.g h.e1.g + e.e0.g)) % 2 ^ info.pA.g = 0 ∧
      (e.e1.b - (sext info.pD.b h.e1.b + e.e0.b)) % 2 ^ info.pA.b = 0 ∧
      (info.tier = .one →
        (e.e2.r - (sext info.pD.r h.e2.r + e.e0.r)) % 2 ^ info.pA.r = 0 ∧
        (e.e2.g - (sext info.pD.g h.e2.g + e.e0.g)) % 2 ^ info.pA.g = 0 ∧
        (e.e2.b - (sext info.pD.b h.e2.b + e.e0.b)) % 2 ^ info.pA.b = 0 ∧
        (e.e3.r - (sext info.pD.r h.e3.r + e.e0.r)) % 2 ^ info.pA.r = 0 ∧
        (e.e3.g - (sext info.pD.g h.e3.g + e.e0.g)) % 2 ^ info.pA.g = 0 ∧
        (e.e3.b - (sext info.pD.b h.e3.b + e.e0.b)) % 2 ^ info.pA.b = 0))) ∧
  (∀ (bits : Nat) (v : Int), 1 ≤ bits → (sext bits v - v) % 2 ^ bits = 0 ∧
    -2 ^ (bits - 1) ≤ sext bits v ∧ sext bits v < 2 ^ (bits - 1)) ∧
  (∀ (bits : Nat) (c : Int), 1 ≤ bits → 0 ≤ c → c < 2 ^ bits →
    let u := unq6h c bits false
    (15 ≤ bits → u = c) ∧
    (bits < 15 → (c = 0 → u = 0) ∧ (0 < c → c = 2 ^ bits - 1 → u = 0xFFFF) ∧
      (0 < c → c < 2 ^ bits - 1 → u = (c * 2 ^ 16 + 0x8000).fdiv (2 ^ bits))) ∧
    (bits ≤ 16 → 0 ≤ u ∧ u ≤ 65535)) ∧
  ∀ (bits : Nat) (c : Int), 1 ≤ bits → -2 ^ (bits - 1) ≤ c → c < 2 ^ (bits - 1) →
    let u := unq6h c bits true
    let top : Int := 2 ^ (bits - 1) - 1
    (16 ≤ bits → u = c) ∧
    (bits < 16 → (c = 0 → u = 0) ∧ (0 < c → top ≤ c → u = 0x7FFF) ∧
      (0 < c → c < top → u = (c * 2 ^ 15 + 0x4000).fdiv (2 ^ (bits - 1))) ∧
      (c < 0 → top ≤ -c → u = -0x7FFF) ∧
      (c < 0 → -c < top → u = -((-c * 2 ^ 15 + 0x4000).fdiv (2 ^ (bits - 1)))) ∧
      -32767 ≤ u ∧ u ≤ 32767)

/-- For BC6H_MODE_1 to BC6H_MODE_14, both formats, every state: the row completes with POS 128 and
STAT 0; with h and idx what the walk of the block gives, and A, B the endpoints of the pixel's
region, each colour channel of pixel i is half6h(fin6h(interp(unq6h(A), unq6h(B), idx[i], ip)))
with precision pA, and alpha is 0x3C00; nothing but PIXH, POS and STAT changes. (That a layout row
has a meaning in every state, its prefix taken from the row and not from BLK[0], is the model's
reading of the opcode table, log 5.) (44_bc6h_decode.md sections 5 and 6; derived) -/
def Obligations.Bc6hModeRowsEmitTheirPixels : Prop :=
  ∀ (sgn : Bool) (s : State), ∀ row ∈ bc6hRows sgn,
    ∃ (h : Header) (idx : List Nat), bc6hWalk row.2 s.blk = .ok (h, idx) 128 ∧
      Completes row.1 s fun t =>
        (∀ i : Fin 16,
          let e := bc6hEndpoints row.2 sgn h
          let k := regionOf .bc6h row.2.tier h.d i
          let A := e.get (2 * k)
          let B := e.get (2 * k + 1)
          let f := fun (pA : Nat) (x y : Int) => BitVec.ofNat 16
            (half6h (fin6h (interp (unq6h x pA sgn) (unq6h y pA sgn) (idx.getD i.val 0) row.2.ip)
              sgn) sgn)
          t.pixh[i] = ⟨f row.2.pA.r A.r B.r, f row.2.pA.g A.g B.g, f row.2.pA.b A.b B.b, 0x3C00⟩) ∧
        EndsAt t 128 ∧ KeepsAllButPixh s t

/-- For every block, DEC_BC6H leaves in PIXH colour channels of 0x0000..0x7BFF (unsigned), and in
the signed format additionally 0x8001..0xFC00; a pattern of minus zero never occurs; alpha is
always 0x3C00. fin6h takes an unsigned v of 0..65535 to floor(31 v / 64), at most 31743, and a
signed v of -32768..32767 to the magnitude floor(31 |v| / 32) with the sign of v put back, in
-31744..31743; half6h takes a finished v >= 0 to v, in both formats, and a signed v < 0 to the
magnitude -v with bit 15, the sign, set: 0x8000 + (-v). (The spec marks the range of the patterns
as its own derivation, and that the scale is applied once, to the interpolated value, as its
decision D23.) (44_bc6h_decode.md section 5, 41_palette_math.md section 6; derived) -/
def Obligations.PixhHoldsOnlyTheStatedPatterns : Prop :=
  (∀ (sgn : Bool) (s : State), Completes (.decBc6h sgn) s fun t =>
    ∀ i : Fin 16, (t.pixh[i]).a = 0x3C00 ∧ ∀ c ∈ [Channel.r, .g, .b],
      let x := ((t.pixh[i]).get c).toNat
      x ≤ 0x7BFF ∨ (sgn = true ∧ 0x8001 ≤ x ∧ x ≤ 0xFC00)) ∧
  (∀ v : Int, 0 ≤ v → v ≤ 65535 →
    fin6h v false = (v * 31).fdiv 64 ∧ 0 ≤ fin6h v false ∧ fin6h v false ≤ 31743) ∧
  (∀ v : Int, -32768 ≤ v → v ≤ 32767 →
    (0 ≤ v → fin6h v true = (v * 31).fdiv 32) ∧ (v < 0 → fin6h v true = -((-v * 31).fdiv 32)) ∧
      -31744 ≤ fin6h v true ∧ fin6h v true ≤ 31743) ∧
  ∀ v : Int, (0 ≤ v → v ≤ 31743 → ∀ sgn : Bool, (half6h v sgn : Int) = v) ∧
    (-31744 ≤ v → v < 0 → (half6h v true : Int) = 0x8000 - v)

/-- For every valid mode, format, endpoint set and shape: if A = B for a region, any two pixels of
the region with any indices are the same. So if all four endpoints are equal, all sixteen pixels
are. (44_bc6h_decode.md section 5; derived) -/
def Obligations.EqualEndpointsGiveOnePixelValue : Prop :=
  ∀ info ∈ bc6hModes, ∀ (sgn : Bool) (e : Endpoints) (d i j x y : Nat),
    (regionOf .bc6h info.tier d i = regionOf .bc6h info.tier d j →
      e.get (2 * regionOf .bc6h info.tier d i) = e.get (2 * regionOf .bc6h info.tier d i + 1) →
      bc6hPixel info sgn e d i x = bc6hPixel info sgn e d j y) ∧
    (e.e0 = e.e1 → e.e0 = e.e2 → e.e0 = e.e3 →
      bc6hPixel info sgn e d i x = bc6hPixel info sgn e d j y)

/-- If BLK[0] = 0, DEC_BC7, and the reserved layout row in any state, completes with all sixteen
PIX8 pixels (0, 0, 0, 0), POS 8, STAT 0x00000801, WARN bit 0 set, and nothing else changed. (That
a layout row has a meaning in every state, its prefix taken from the row and not from BLK[0], is
the model's reading of the opcode table, log 5.) (45_bc7_decode.md section 2, 60_exceptions.md
section 2; derived) -/
def Obligations.Bc7ReservedBlocksGiveTransparentBlack : Prop :=
  ∀ (s : State) (i : Instr), (i = .decBc7 ∧ s.blk[0] = 0) ∨ i = .bc7Reserved →
    Completes i s fun t =>
      (∀ k : Fin 16, t.pix8[k] = ⟨0, 0, 0, 0⟩) ∧ t.pos = 8 ∧ t.stat = 0x00000801 ∧
      t.warn = s.warn ||| 1 ∧ t.blk = s.blk ∧ t.pixh = s.pixh ∧ t.val = s.val ∧
      t.fatal = s.fatal ∧ KeepsHostSide s t

/-- If BLK[0] is not 0, DEC_BC7 completes with POS 128, STAT 0, WARN unchanged, and changes only
PIX8, POS and STAT; the only error of DEC_BC7 is BAD_MODE, so with the printed tables it never
raises OVERRUN or BAD_INDEX; and the fields before the index planes end at the bit the rule gives.
(The spec marks this as its own derivation.) (45_bc7_decode.md section 6; derived) -/
def Obligations.ValidBc7BlocksDecodeToBit128 : Prop :=
  (∀ s : State, s.blk[0] ≠ 0 →
    Completes .decBc7 s fun t => EndsAt t 128 ∧ KeepsAllButPix8 s t) ∧
  (∀ s t : State, exec .decBc7 s = .next t → t.statCause = 0 ∨ t.statCause = 1) ∧
  ∀ info ∈ bc7Modes, ∀ b : Block, ∃ x : Bc7Fields,
    bc7Header info b (info.mode + 1) = .ok x
      (128 - (16 * info.ip.bits - (info.tier.toNat + 1)) -
        (match info.ip2 with | some ip2 => 16 * ip2.bits - 1 | none => 0))

/-- For each of the eight modes and every block: m zero bits and a one are the prefix of mode m;
the shape, rotation, selector, endpoint channel and P-bit fields are exactly the bit ranges of
R104 (channels the mode does not store are 255); the primary index plane occupies the range the
table gives for every shape, the field of pixel i after those of the pixels before it; and the
secondary plane, where there is one, the rest up to bit 128. (The spec marks this as its own
derivation.) (30_encoding.md section 5; derived) -/
def Obligations.Bc7FieldsLieWhereTheLayoutTableSays : Prop :=
  ∀ b : Block,
  (∀ m < 8, b.memRead 0 (m + 1) = 2 ^ m → bc7ModeRead b = .ok m (m + 1)) ∧
  bc7Header bc7Info0 b 1 = .ok
      ⟨b.memRead 1 4, 0, 0,
        [b.memRead 5 4, b.memRead 9 4, b.memRead 13 4,
         b.memRead 17 4, b.memRead 21 4, b.memRead 25 4],
        [b.memRead 29 4, b.memRead 33 4, b.memRead 37 4,
         b.memRead 41 4, b.memRead 45 4, b.memRead 49 4],
        [b.memRead 53 4, b.memRead 57 4, b.memRead 61 4,
         b.memRead 65 4, b.memRead 69 4, b.memRead 73 4],
        [255, 255, 255, 255, 255, 255],
        [b.memRead 77 1, b.memRead 78 1, b.memRead 79 1,
         b.memRead 80 1, b.memRead 81 1, b.memRead 82 1]⟩ 83 ∧
    (∀ shape < 64, primaryFrom bc7Info0 b shape 83 128) ∧
  bc7Header bc7Info1 b 2 = .ok
      ⟨b.memRead 2 6, 0, 0,
        [b.memRead 8 6, b.memRead 14 6, b.memRead 20 6, b.memRead 26 6],
        [b.memRead 32 6, b.memRead 38 6, b.memRead 44 6, b.memRead 50 6],
        [b.memRead 56 6, b.memRead 62 6, b.memRead 68 6, b.memRead 74 6],
        [255, 255, 255, 255],
        [b.memRead 80 1, b.memRead 81 1]⟩ 82 ∧
    (∀ shape < 64, primaryFrom bc7Info1 b shape 82 128) ∧
  bc7Header bc7Info2 b 3 = .ok
      ⟨b.memRead 3 6, 0, 0,
        [b.memRead 9 5, b.memRead 14 5, b.memRead 19 5,
         b.memRead 24 5, b.memRead 29 5, b.memRead 34 5],
        [b.memRead 39 5, b.memRead 44 5, b.memRead 49 5,
         b.memRead 54 5, b.memRead 59 5, b.memRead 64 5],
        [b.memRead 69 5, b.memRead 74 5, b.memRead 79 5,
         b.memRead 84 5, b.memRead 89 5, b.memRead 94 5],
        [255, 255, 255, 255, 255, 255],
        []⟩ 99 ∧
    (∀ shape < 64, primaryFrom bc7Info2 b shape 99 128) ∧
  bc7Header bc7Info3 b 4 = .ok
      ⟨b.memRead 4 6, 0, 0,
        [b.memRead 10 7, b.memRead 17 7, b.memRead 24 7, b.memRead 31 7],
        [b.memRead 38 7, b.memRead 45 7, b.memRead 52 7, b.memRead 59 7],
        [b.memRead 66 7, b.memRead 73 7, b.memRead 80 7, b.memRead 87 7],
        [255, 255, 255, 255],
        [b.memRead 94 1, b.memRead 95 1, b.memRead 96 1, b.memRead 97 1]⟩ 98 ∧
    (∀ shape < 64, primaryFrom bc7Info3 b shape 98 128) ∧
  bc7Header bc7Info4 b 5 = .ok
      ⟨0, b.memRead 5 2, b.memRead 7 1,
        [b.memRead 8 5, b.memRead 13 5],
        [b.memRead 18 5, b.memRead 23 5],
        [b.memRead 28 5, b.memRead 33 5],
        [b.memRead 38 6, b.memRead 44 6],
        []⟩ 50 ∧
    (∀ shape < 64, primaryFrom bc7Info4 b shape 50 81) ∧
    secondaryFrom bc7Info4 b 3 81 ∧
  bc7Header bc7Info5 b 6 = .ok
      ⟨0, b.memRead 6 2, 0,
        [b.memRead 8 7, b.memRead 15 7],
        [b.memRead 22 7, b.memRead 29 7],
        [b.memRead 36 7, b.memRead 43 7],
        [b.memRead 50 8, b.memRead 58 8],
        []⟩ 66 ∧
    (∀ shape < 64, primaryFrom bc7Info5 b shape 66 97) ∧
    secondaryFrom bc7Info5 b 2 97 ∧
  bc7Header bc7Info6 b 7 = .ok
      ⟨0, 0, 0,
        [b.memRead 7 7, b.memRead 14 7],
        [b.memRead 21 7, b.memRead 28 7],
        [b.memRead 35 7, b.memRead 42 7],
        [b.memRead 49 7, b.memRead 56 7],
        [b.memRead 63 1, b.memRead 64 1]⟩ 65 ∧
    (∀ shape < 64, primaryFrom bc7Info6 b shape 65 128) ∧
  bc7Header bc7Info7 b 8 = .ok
      ⟨b.memRead 8 6, 0, 0,
        [b.memRead 14 5, b.memRead 19 5, b.memRead 24 5, b.memRead 29 5],
        [b.memRead 34 5, b.memRead 39 5, b.memRead 44 5, b.memRead 49 5],
        [b.memRead 54 5, b.memRead 59 5, b.memRead 64 5, b.memRead 69 5],
        [b.memRead 74 5, b.memRead 79 5, b.memRead 84 5, b.memRead 89 5],
        [b.memRead 94 1, b.memRead 95 1, b.memRead 96 1, b.memRead 97 1]⟩ 98 ∧
    (∀ shape < 64, primaryFrom bc7Info7 b shape 98 128)

/-- For BC7_MODE_0 to BC7_MODE_7 and every state: the row completes with POS 128 and STAT 0; with
x, w1, w2 what the walk of the block gives, pixel i is the interpolation of its region's endpoints
by (primary, primary), or where there is a secondary plane by (primary, secondary) or (secondary,
primary) as the selector says, each index with its own plane's precision, then rotated; nothing
but PIX8, POS and STAT changes. (That a layout row has a meaning in every state, its prefix taken
from the row and not from BLK[0], is the model's reading of the opcode table, log 5.)
(45_bc7_decode.md sections 5 and 6; derived) -/
def Obligations.Bc7ModeRowsEmitTheirPixels : Prop :=
  ∀ s : State, ∀ row ∈ bc7Rows,
    ∃ (x : Bc7Fields) (w1 w2 : List Nat), bc7Walk row.2 s.blk = .ok (x, w1, w2) 128 ∧
      w1.length = 16 ∧ (∀ w ∈ w1, w < 2 ^ row.2.ip.bits) ∧
      Completes row.1 s fun t =>
        (∀ i : Fin 16,
          let k := regionOf .bc7 row.2.tier x.shape i
          let A := bc7Endpoint row.2 x (2 * k)
          let B := bc7Endpoint row.2 x (2 * k + 1)
          let p := w1.getD i.val 0
          let q := w2.getD i.val 0
          let px :=
            match row.2.ip2 with
            | none => interpRgba A B p p row.2.ip row.2.ip
            | some ip2 =>
              if x.isel = 0 then interpRgba A B p q row.2.ip ip2 else interpRgba A B q p ip2 row.2.ip
          t.pix8[i] = bytePixel (rotate x.rot px)) ∧
        EndsAt t 128 ∧ KeepsAllButPix8 s t

/-- For every mode and block: with x the fields the walk reads, every channel of every endpoint is
below 256; a channel the mode stores is unq7((stored << 1) | P-bit, precP) where its precision
prec differs from precP, the one with the P-bit, and unq7(stored, precP) where the two are equal,
and the P-bit is 0 or 1; in modes 0 to 3, alpha is 255; with one P-bit per endpoint endpoint e
uses P-bit e, and in mode 1 endpoints 0, 1 use P-bit 0 and endpoints 2, 3 use P-bit 1. (The spec
marks the order of the P-bits and the precision precP as its decisions D27 and D49.)
(45_bc7_decode.md sections 1 and 3, 41_palette_math.md section 5; derived) -/
def Obligations.Bc7EndpointsAreBytesAndDefaultAlphaIs255 : Prop :=
  (∀ info ∈ bc7Modes, ∀ (b : Block) (x : Bc7Fields) (pos : Nat),
    bc7Header info b (info.mode + 1) = .ok x pos →
    ∀ e < info.tier.endpoints,
      (∀ c : Channel, (bc7Endpoint info x e).get c < 256) ∧
      (∀ c : Channel, 0 < info.prec.get c →
        let stored := (match c with | .r => x.r | .g => x.g | .b => x.b | .a => x.a).getD e 0
        let pbit := bc7Pbit info x.pbits e
        pbit < 2 ∧
        (info.prec.get c ≠ info.precP.get c →
          (bc7Endpoint info x e).get c = unq7 (stored <<< 1 ||| pbit) (info.precP.get c)) ∧
        (info.prec.get c = info.precP.get c →
          (bc7Endpoint info x e).get c = unq7 stored (info.precP.get c))) ∧
      (info.prec.a = 0 → (bc7Endpoint info x e).a = 255)) ∧
  (∀ info ∈ bc7Modes, info.np = info.tier.endpoints → ∀ (pb : List Nat), ∀ e < info.tier.endpoints,
    bc7Pbit info pb e = pb.getD e 0) ∧
  ∀ pb : List Nat, bc7Pbit bc7Info1 pb 0 = pb.getD 0 0 ∧ bc7Pbit bc7Info1 pb 1 = pb.getD 0 0 ∧
    bc7Pbit bc7Info1 pb 2 = pb.getD 1 0 ∧ bc7Pbit bc7Info1 pb 3 = pb.getD 1 0

/-- For every pixel: rotation 0 leaves it; 1, 2, 3 swap alpha with r, g, b; and applying a
rotation of 0..3 twice gives the pixel back. A mode without a rotation field has rotation 0.
(R276; stated) -/
def Obligations.RotationSwapsAlphaAndIsItsOwnInverse : Prop :=
  (∀ info ∈ bc7Modes, info.rb = 0 → ∀ (b : Block) (x : Bc7Fields) (pos : Nat),
    bc7Header info b (info.mode + 1) = .ok x pos → x.rot = 0) ∧
  ∀ p : Pixel Nat, rotate 0 p = p ∧ rotate 1 p = ⟨p.a, p.g, p.b, p.r⟩ ∧
    rotate 2 p = ⟨p.r, p.a, p.b, p.g⟩ ∧ rotate 3 p = ⟨p.r, p.g, p.a, p.b⟩ ∧
    ∀ r < 4, rotate r (rotate r p) = p

/-- For every endpoint field set with rot = 1 and isel = 1 and all indices: pixel i of a mode 4
block has red = interp of the alpha endpoints by the 2-bit plane-1 index, green and blue = interp
of their endpoints by the 3-bit plane-2 index, and alpha = interp of the red endpoints by the
plane-2 index. (R278; stated) -/
def Obligations.Mode4SelectorSendsPlaneTwoToColour : Prop :=
  ∀ (x : Bc7Fields) (w1 w2 : List Nat) (i : Nat), x.rot = 1 → x.isel = 1 →
    let A := bc7Endpoint bc7Info4 x 0
    let B := bc7Endpoint bc7Info4 x 1
    bc7Pixel bc7Info4 x w1 w2 i =
      ⟨interpNat A.a B.a (w1.getD i 0) .two, interpNat A.g B.g (w2.getD i 0) .three,
        interpNat A.b B.b (w2.getD i 0) .three, interpNat A.r B.r (w2.getD i 0) .three⟩

/-- For every state, bias and channel ENC_BC4 completes: with x what encodeBC4 gives for the
sixteen samples of that channel, BLK[0], BLK[1] are the endpoint bytes and the 3-bit field at 16 +
3i is index i; BLK[8..15] is unchanged; POS is 64, STAT 0; nothing else changes. (R314; stated) -/
def Obligations.EncBc4WritesTheEncodedHalf : Prop :=
  ∀ (bias : Byte) (chan : Channel) (s : State), Completes (.encBc4 bias chan) s fun t =>
    let x := encodeBc4 (s.samples chan) bias.toNat
    t.blk.byte 0 = x.b0 ∧ t.blk.byte 1 = x.b1 ∧
      (∀ i < 16, t.blk.memRead (16 + 3 * i) 3 = x.idx.getD i 0) ∧
      (∀ j : Fin 16, 8 ≤ j.val → t.blk[j] = s.blk[j]) ∧ EndsAt t 64 ∧ KeepsAllButBlk s t

/-- For every state and bias ENC_BC5 completes: the half at byte 0 holds what encodeBC4 gives for
channel r and the half at byte 8 what it gives for channel g; POS is 128, STAT 0; nothing else
changes. (R315; stated) -/
def Obligations.EncBc5WritesBothHalves : Prop :=
  ∀ (bias : Byte) (s : State), Completes (.encBc5 bias) s fun t =>
    let x := encodeBc4 (s.samples .r) bias.toNat
    let y := encodeBc4 (s.samples .g) bias.toNat
    t.blk.byte 0 = x.b0 ∧ t.blk.byte 1 = x.b1 ∧ t.blk.byte 8 = y.b0 ∧ t.blk.byte 9 = y.b1 ∧
      (∀ i < 16, t.blk.memRead (16 + 3 * i) 3 = x.idx.getD i 0 ∧
        t.blk.memRead (80 + 3 * i) 3 = y.idx.getD i 0) ∧
      EndsAt t 128 ∧ KeepsAllButBlk s t

/-- For samples of 0..255: mn and mx are the least and greatest sample; mn2 and mx2 the least and
greatest of those in 8..247, or mn and mx when there is none; the flipped window is triggered iff
mn < 8 or mx > 247; a pair is in the tight window iff mx - 4 <= a0 < mx + 8 and mn - 8 <= a1 < mn
+ 4, both at most 255, and in the flipped window iff mn2 - 8 <= a0 < mn2 + 4 and mx2 - 4 <= a1 <
mx2 + 8, both at most 255; each window has at most 144 pairs; (mx, mn) is in the tight window.
(46_bc4_bc5_encode.md sections 1 and 3; derived) -/
def Obligations.SearchWindowsAreTheStatedRanges : Prop :=
  ∀ v : List Nat, (∀ x ∈ v, x ≤ 255) →
    let inner := v.filter fun x => 8 ≤ x ∧ x ≤ 247
    (v ≠ [] → leastOf (minOf v) v ∧ greatestOf (maxOf v) v) ∧
    (inner ≠ [] → leastOf (minInner v) inner ∧ greatestOf (maxInner v) inner) ∧
    (inner = [] → minInner v = minOf v ∧ maxInner v = maxOf v) ∧
    (nearEnds v = true ↔ minOf v < 8 ∨ maxOf v > 247) ∧
    (∀ a0 a1 : Nat, (a0, a1) ∈ tightWindow v ↔
      maxOf v ≤ a0 + 4 ∧ a0 < maxOf v + 8 ∧ minOf v ≤ a1 + 8 ∧ a1 < minOf v + 4 ∧ a0 ≤ 255 ∧
        a1 ≤ 255) ∧
    (∀ a0 a1 : Nat, (a0, a1) ∈ flippedWindow v ↔
      minInner v ≤ a0 + 8 ∧ a0 < minInner v + 4 ∧ maxInner v ≤ a1 + 4 ∧ a1 < maxInner v + 8 ∧
        a0 ≤ 255 ∧ a1 ≤ 255) ∧
    (tightWindow v).length ≤ 144 ∧ (flippedWindow v).length ≤ 144 ∧
    (maxOf v, minOf v) ∈ tightWindow v

/-- For samples of 0..255: the chosen pair is in the tight window, or in the flipped window when a
sample is near an end; its recorded error is its score; no pair of the tight window, and where the
flipped window is searched none of it, has a smaller score; every pair of the tight window before
a chosen one of it has a greater score; and if the chosen pair is not in the tight window, every
pair of that window and every pair before it in the flipped window has a greater score.
(46_bc4_bc5_encode.md section 3; derived) -/
def Obligations.SearchKeepsTheFirstLeastScore : Prop :=
  ∀ v : List Nat, (∀ x ∈ v, x ≤ 255) →
    let best := bestPair v
    best.e = score v best.a0 best.a1 ∧
    ((best.a0, best.a1) ∈ tightWindow v ∨
      nearEnds v = true ∧ (best.a0, best.a1) ∈ flippedWindow v) ∧
    (∀ p ∈ tightWindow v, best.e ≤ score v p.1 p.2) ∧
    (nearEnds v = true → ∀ p ∈ flippedWindow v, best.e ≤ score v p.1 p.2) ∧
    (∀ pre post : List (Nat × Nat), tightWindow v = pre ++ (best.a0, best.a1) :: post →
      ∀ p ∈ pre, best.e < score v p.1 p.2) ∧
    ((best.a0, best.a1) ∉ tightWindow v →
      (∀ p ∈ tightWindow v, best.e < score v p.1 p.2) ∧
      ∀ pre post : List (Nat × Nat), flippedWindow v = pre ++ (best.a0, best.a1) :: post →
        ∀ p ∈ pre, best.e < score v p.1 p.2)

/-- For every non-empty palette and sample: the index is a position of the palette, no entry is
nearer to the sample than the one there, and every earlier entry is farther. (R310; stated) -/
def Obligations.EncodedIndicesAreTheFirstNearestEntries : Prop :=
  (∀ (P : List Nat) (x : Nat), P ≠ [] →
    nearestIndex P x < P.length ∧
    (∀ k < P.length, absDiff x (P.getD (nearestIndex P x) 0) ≤ absDiff x (P.getD k 0)) ∧
    ∀ k < nearestIndex P x, absDiff x (P.getD (nearestIndex P x) 0) < absDiff x (P.getD k 0)) ∧
  ∀ (samples : List Nat) (bias i : Nat), i < samples.length →
    let v := samples.map fun x => (x + bias) % 256
    (encodeBc4 samples bias).idx.getD i 0 =
      nearestIndex (pal8 (bestPair v).a0 (bestPair v).a1) (v.getD i 0)

/-- For every state, bias and channel: ENC_BC4 completes, DEC_BC4 with the same bias and channel
on the result completes, and with v the biased samples and d the biased decoded bytes, the sum of
squared differences is the score of the stored endpoints and at most score(max v, min v). (The
spec marks this as its own derivation.) (46_bc4_bc5_encode.md section 5; derived) -/
def Obligations.EncodeThenDecodeErrorIsBounded : Prop :=
  ∀ (bias : Byte) (chan : Channel) (s : State), ∃ t u,
    exec (.encBc4 bias chan) s = .next t ∧ exec (.decBc4 bias chan) t = .next u ∧
    let v := (s.samples chan).map fun x => (x + bias.toNat) % 256
    let d := (u.samples chan).map fun x => (x + bias.toNat) % 256
    squaredError v d = score v ((t.blk.byte 0 + bias.toNat) % 256) ((t.blk.byte 1 + bias.toNat) % 256) ∧
      squaredError v d ≤ score v (maxOf v) (minOf v)

/-- A command whose walk, of any result type, raises ends in the error action. For every error
output, cause, info and cursor: STAT is (info mod 256) * 256 + code; POS is the cursor; WARN gets
exactly the bit of the cause, except CONTRACT, which sets FATAL instead; DEC_BC6H gets the BC6H
error block, DEC_BC7 the BC7 one, a cursor command VAL 0 unless the cause is CONTRACT, a reserved
word nothing; BLK, CMD and the host side never change. (R346; stated) -/
def Obligations.ErrorActionEffects : Prop :=
  ∀ (s : State) (o : ErrorOutput) (c : Cause) (info pos : Nat), pos < 256 →
    let t := s.errorAction o c info pos
    (∀ (α : Type) (write : State → α → State), s.finish o (.raise c info pos) write = t) ∧
    t.stat = BitVec.ofNat 32 (info % 256 * 256 + c.code) ∧ t.pos.toNat = pos ∧
    t.blk = s.blk ∧ KeepsHostSide s t ∧
    (c = .contract → t.warn = s.warn ∧ t.fatal = true) ∧
    (c ≠ .contract → t.fatal = s.fatal) ∧
    (c = .badMode → t.warn = s.warn ||| 1) ∧ (c = .overrun → t.warn = s.warn ||| 2) ∧
    (c = .badIndex → t.warn = s.warn ||| 4) ∧ (c = .badCmd → t.warn = s.warn ||| 8) ∧
    (o = .bc6h → ∀ i : Fin 16, t.pixh[i] = ⟨0, 0, 0, 0x3C00⟩) ∧ (o ≠ .bc6h → t.pixh = s.pixh) ∧
    (o = .bc7 → ∀ i : Fin 16, t.pix8[i] = ⟨0, 0, 0, 0⟩) ∧ (o ≠ .bc7 → t.pix8 = s.pix8) ∧
    (o = .cursor → c ≠ .contract → t.val = 0) ∧
    (o ≠ .cursor ∨ c = .contract → t.val = s.val)

/-- For every instruction, state and next state: CMD and the host side are unchanged; BLK unless
it encodes; PIX8 unless it decodes to it; PIXH unless it is DEC_BC6H or a layout row of it; VAL
unless it is GETBIT or GETBITS; POS for NOP, CLRW and reserved words; and an instruction that can
raise nothing ends with STAT 0, FATAL unchanged and, but for CLRW, WARN unchanged. (10_state.md
section 8, 60_exceptions.md section 2; derived) -/
def Obligations.CommandsWriteOnlyTheRegistersOfTheTable : Prop :=
  ∀ (i : Instr) (s t : State), exec i s = .next t →
    KeepsHostSide s t ∧ (mayWriteBlk i = false → t.blk = s.blk) ∧
    (mayWritePix8 i = false → t.pix8 = s.pix8) ∧ (mayWritePixh i = false → t.pixh = s.pixh) ∧
    (mayWriteVal i = false → t.val = s.val) ∧ (keepsPos i = true → t.pos = s.pos) ∧
    (t.fatal ≠ s.fatal → ∃ n w64, i = .getbits n w64 ∧ 8 < n.toNat) ∧
    (raisesNothing i = true → t.stat = 0 ∧ t.fatal = s.fatal ∧ (i ≠ .clrw → t.warn = s.warn))

/-- If a step is neither that of a reset access nor that of a CMD write of CLRW executed with
FATAL 0, every WARN bit that was set is set after it. (10_state.md section 5; derived) -/
def Obligations.WarnBitsStayUntilClrwOrReset : Prop :=
  ∀ s t : State, step s = .next t → s.bus.head? ≠ some .reset →
    (∀ w, s.bus.head? = some (.write 0x10 w) → s.fatal = true ∨ decodeWord w ≠ .clrw) →
    ∀ k, s.warn.getLsbD k = true → t.warn.getLsbD k = true

/-- STAT, WARN and FATAL agree with each other at reset (all 0). (10_state.md sections 5 and 9;
derived) -/
def Obligations.StatusInvariantHoldsAtReset : Prop :=
  StatusInv State.reset

/-- From every state that satisfies the invariant, a step gives a state that does: STAT bits 31:16
and 7:3 are 0 and cause is at most 5; WARN bits 7:4 are 0; FATAL is 1 iff the cause is CONTRACT,
whose info is then at least 9; cause NONE means STAT is 0; and causes 1, 2, 3, 5 have WARN bit 0,
1, 2, 3 set. (10_state.md section 5, 60_exceptions.md sections 1 and 2; derived) -/
def Obligations.EveryStepKeepsTheStatusInvariant : Prop :=
  ∀ s t : State, StatusInv s → step s = .next t → StatusInv t

/-- If two states agree on everything but elements never written since reset, and every element
the instruction reads has been written (ready), then the instruction answers next states at both,
which again agree on everything but never-written elements. So the values the model gives at reset
(log 1) are observed by no command that keeps the bring-up rule. (10_state.md section 9,
70_reset_and_hazards.md section 2; derived) -/
def Obligations.NeverWrittenElementsAreNotObservedByReadyCommands : Prop :=
  ∀ (i : Instr) (s t : State), AgreeWhereWritten s t → ready i s = true →
    ∃ s' t', exec i s = .next s' ∧ exec i t = .next t' ∧ AgreeWhereWritten s' t'
end

