-- ==== Sys2Proof/Config.lean ====
section
/-! DEFINITION. What a platform fixes. The BCU has no width parameter (R6); its table set and its
rounding parameters are given by the spec and stand in files of Machine/, where a repair may
mend an entry (log 8). The one OPEN parameter is `BCU_BASE`. -/

namespace Sys2Proof

/-- `BCU_BASE` (00_scope.md R6, 20_memory.md R64): where the platform puts offset 0. The spec gives
it no value, so nothing can evaluate it. The machine works in offsets (log 11). -/
opaque Config.bcuBase : Nat

/-- The platform address of a register offset of 10_state.md R32. -/
def Config.platformAddress (off : Nat) : Nat := Config.bcuBase + off

end Sys2Proof
end

