-- ==== Sys2Proof/Laws/State.lean ====
section
/-! SUPPORT. One lemma per field per update of State, each true by definition, so that no later proof
unfolds a record update. -/

namespace Sys2Proof.Machine

variable (s : State)

/-! ### `State.setPos` -/

@[simp] theorem State.setPos_blk (p : Nat) : (s.setPos p).blk = s.blk := rfl
@[simp] theorem State.setPos_pix8 (p : Nat) : (s.setPos p).pix8 = s.pix8 := rfl
@[simp] theorem State.setPos_pixh (p : Nat) : (s.setPos p).pixh = s.pixh := rfl
@[simp] theorem State.setPos_val (p : Nat) : (s.setPos p).val = s.val := rfl
@[simp] theorem State.setPos_pos (p : Nat) : (s.setPos p).pos = BitVec.ofNat 8 p := rfl
@[simp] theorem State.setPos_cmd (p : Nat) : (s.setPos p).cmd = s.cmd := rfl
@[simp] theorem State.setPos_stat (p : Nat) : (s.setPos p).stat = s.stat := rfl
@[simp] theorem State.setPos_warn (p : Nat) : (s.setPos p).warn = s.warn := rfl
@[simp] theorem State.setPos_fatal (p : Nat) : (s.setPos p).fatal = s.fatal := rfl
@[simp] theorem State.setPos_bus (p : Nat) : (s.setPos p).bus = s.bus := rfl
@[simp] theorem State.setPos_rdata (p : Nat) : (s.setPos p).rdata = s.rdata := rfl
@[simp] theorem State.setPos_written (p : Nat) : (s.setPos p).written = s.written := rfl

/-! ### `State.setVal` -/

@[simp] theorem State.setVal_blk (v : Nat) : (s.setVal v).blk = s.blk := rfl
@[simp] theorem State.setVal_pix8 (v : Nat) : (s.setVal v).pix8 = s.pix8 := rfl
@[simp] theorem State.setVal_pixh (v : Nat) : (s.setVal v).pixh = s.pixh := rfl
@[simp] theorem State.setVal_val (v : Nat) : (s.setVal v).val = BitVec.ofNat 8 v := rfl
@[simp] theorem State.setVal_pos (v : Nat) : (s.setVal v).pos = s.pos := rfl
@[simp] theorem State.setVal_cmd (v : Nat) : (s.setVal v).cmd = s.cmd := rfl
@[simp] theorem State.setVal_stat (v : Nat) : (s.setVal v).stat = s.stat := rfl
@[simp] theorem State.setVal_warn (v : Nat) : (s.setVal v).warn = s.warn := rfl
@[simp] theorem State.setVal_fatal (v : Nat) : (s.setVal v).fatal = s.fatal := rfl
@[simp] theorem State.setVal_bus (v : Nat) : (s.setVal v).bus = s.bus := rfl
@[simp] theorem State.setVal_rdata (v : Nat) : (s.setVal v).rdata = s.rdata := rfl
@[simp] theorem State.setVal_written (v : Nat) :
    (s.setVal v).written =
      { s.written with val := true } := rfl

/-! ### `State.setPix8` -/

@[simp] theorem State.setPix8_blk (f : Fin 16 → Pixel Byte) : (s.setPix8 f).blk = s.blk := rfl
@[simp] theorem State.setPix8_pix8 (f : Fin 16 → Pixel Byte) :
    (s.setPix8 f).pix8 =
      Vector.ofFn f := rfl
@[simp] theorem State.setPix8_pixh (f : Fin 16 → Pixel Byte) : (s.setPix8 f).pixh = s.pixh := rfl
@[simp] theorem State.setPix8_val (f : Fin 16 → Pixel Byte) : (s.setPix8 f).val = s.val := rfl
@[simp] theorem State.setPix8_pos (f : Fin 16 → Pixel Byte) : (s.setPix8 f).pos = s.pos := rfl
@[simp] theorem State.setPix8_cmd (f : Fin 16 → Pixel Byte) : (s.setPix8 f).cmd = s.cmd := rfl
@[simp] theorem State.setPix8_stat (f : Fin 16 → Pixel Byte) : (s.setPix8 f).stat = s.stat := rfl
@[simp] theorem State.setPix8_warn (f : Fin 16 → Pixel Byte) : (s.setPix8 f).warn = s.warn := rfl
@[simp] theorem State.setPix8_fatal (f : Fin 16 → Pixel Byte) : (s.setPix8 f).fatal = s.fatal := rfl
@[simp] theorem State.setPix8_bus (f : Fin 16 → Pixel Byte) : (s.setPix8 f).bus = s.bus := rfl
@[simp] theorem State.setPix8_rdata (f : Fin 16 → Pixel Byte) : (s.setPix8 f).rdata = s.rdata := rfl
@[simp] theorem State.setPix8_written (f : Fin 16 → Pixel Byte) :
    (s.setPix8 f).written =
      { s.written with pix8 := Vector.replicate 16 ⟨true, true, true, true⟩ } := rfl

/-! ### `State.setPix8Channel` -/

@[simp] theorem State.setPix8Channel_blk (c : Channel) (f : Fin 16 → Byte) :
    (s.setPix8Channel c f).blk =
      s.blk := rfl
@[simp] theorem State.setPix8Channel_pix8 (c : Channel) (f : Fin 16 → Byte) :
    (s.setPix8Channel c f).pix8 =
      Vector.ofFn fun i : Fin 16 => (s.pix8[i]).set c (f i) := rfl
@[simp] theorem State.setPix8Channel_pixh (c : Channel) (f : Fin 16 → Byte) :
    (s.setPix8Channel c f).pixh =
      s.pixh := rfl
@[simp] theorem State.setPix8Channel_val (c : Channel) (f : Fin 16 → Byte) :
    (s.setPix8Channel c f).val =
      s.val := rfl
@[simp] theorem State.setPix8Channel_pos (c : Channel) (f : Fin 16 → Byte) :
    (s.setPix8Channel c f).pos =
      s.pos := rfl
@[simp] theorem State.setPix8Channel_cmd (c : Channel) (f : Fin 16 → Byte) :
    (s.setPix8Channel c f).cmd =
      s.cmd := rfl
@[simp] theorem State.setPix8Channel_stat (c : Channel) (f : Fin 16 → Byte) :
    (s.setPix8Channel c f).stat =
      s.stat := rfl
@[simp] theorem State.setPix8Channel_warn (c : Channel) (f : Fin 16 → Byte) :
    (s.setPix8Channel c f).warn =
      s.warn := rfl
@[simp] theorem State.setPix8Channel_fatal (c : Channel) (f : Fin 16 → Byte) :
    (s.setPix8Channel c f).fatal =
      s.fatal := rfl
@[simp] theorem State.setPix8Channel_bus (c : Channel) (f : Fin 16 → Byte) :
    (s.setPix8Channel c f).bus =
      s.bus := rfl
@[simp] theorem State.setPix8Channel_rdata (c : Channel) (f : Fin 16 → Byte) :
    (s.setPix8Channel c f).rdata =
      s.rdata := rfl
@[simp] theorem State.setPix8Channel_written (c : Channel) (f : Fin 16 → Byte) :
    (s.setPix8Channel c f).written =
      { s.written with pix8 := Vector.ofFn fun i : Fin 16 => (s.written.pix8[i]).set c true } := rfl

/-! ### `State.setPixh` -/

@[simp] theorem State.setPixh_blk (f : Fin 16 → Pixel Half) : (s.setPixh f).blk = s.blk := rfl
@[simp] theorem State.setPixh_pix8 (f : Fin 16 → Pixel Half) : (s.setPixh f).pix8 = s.pix8 := rfl
@[simp] theorem State.setPixh_pixh (f : Fin 16 → Pixel Half) :
    (s.setPixh f).pixh =
      Vector.ofFn f := rfl
@[simp] theorem State.setPixh_val (f : Fin 16 → Pixel Half) : (s.setPixh f).val = s.val := rfl
@[simp] theorem State.setPixh_pos (f : Fin 16 → Pixel Half) : (s.setPixh f).pos = s.pos := rfl
@[simp] theorem State.setPixh_cmd (f : Fin 16 → Pixel Half) : (s.setPixh f).cmd = s.cmd := rfl
@[simp] theorem State.setPixh_stat (f : Fin 16 → Pixel Half) : (s.setPixh f).stat = s.stat := rfl
@[simp] theorem State.setPixh_warn (f : Fin 16 → Pixel Half) : (s.setPixh f).warn = s.warn := rfl
@[simp] theorem State.setPixh_fatal (f : Fin 16 → Pixel Half) : (s.setPixh f).fatal = s.fatal := rfl
@[simp] theorem State.setPixh_bus (f : Fin 16 → Pixel Half) : (s.setPixh f).bus = s.bus := rfl
@[simp] theorem State.setPixh_rdata (f : Fin 16 → Pixel Half) : (s.setPixh f).rdata = s.rdata := rfl
@[simp] theorem State.setPixh_written (f : Fin 16 → Pixel Half) :
    (s.setPixh f).written =
      { s.written with pixh := true } := rfl

/-! ### `State.setBlkHalf` -/

@[simp] theorem State.setBlkHalf_blk (o : Nat) (b : Block) :
    (s.setBlkHalf o b).blk =
      Vector.ofFn fun j : Fin 16 => if o ≤ j.val ∧ j.val < o + 8 then b[j] else s.blk[j] := rfl
@[simp] theorem State.setBlkHalf_pix8 (o : Nat) (b : Block) :
    (s.setBlkHalf o b).pix8 =
      s.pix8 := rfl
@[simp] theorem State.setBlkHalf_pixh (o : Nat) (b : Block) :
    (s.setBlkHalf o b).pixh =
      s.pixh := rfl
@[simp] theorem State.setBlkHalf_val (o : Nat) (b : Block) : (s.setBlkHalf o b).val = s.val := rfl
@[simp] theorem State.setBlkHalf_pos (o : Nat) (b : Block) : (s.setBlkHalf o b).pos = s.pos := rfl
@[simp] theorem State.setBlkHalf_cmd (o : Nat) (b : Block) : (s.setBlkHalf o b).cmd = s.cmd := rfl
@[simp] theorem State.setBlkHalf_stat (o : Nat) (b : Block) :
    (s.setBlkHalf o b).stat =
      s.stat := rfl
@[simp] theorem State.setBlkHalf_warn (o : Nat) (b : Block) :
    (s.setBlkHalf o b).warn =
      s.warn := rfl
@[simp] theorem State.setBlkHalf_fatal (o : Nat) (b : Block) :
    (s.setBlkHalf o b).fatal =
      s.fatal := rfl
@[simp] theorem State.setBlkHalf_bus (o : Nat) (b : Block) : (s.setBlkHalf o b).bus = s.bus := rfl
@[simp] theorem State.setBlkHalf_rdata (o : Nat) (b : Block) :
    (s.setBlkHalf o b).rdata =
      s.rdata := rfl
@[simp] theorem State.setBlkHalf_written (o : Nat) (b : Block) :
    (s.setBlkHalf o b).written =
      { s.written with blk := Vector.ofFn fun j : Fin 16 => if o ≤ j.val ∧ j.val < o + 8 then true else s.written.blk[j] } := rfl

/-! ### `State.complete` -/

@[simp] theorem State.complete_blk : (s.complete).blk = s.blk := rfl
@[simp] theorem State.complete_pix8 : (s.complete).pix8 = s.pix8 := rfl
@[simp] theorem State.complete_pixh : (s.complete).pixh = s.pixh := rfl
@[simp] theorem State.complete_val : (s.complete).val = s.val := rfl
@[simp] theorem State.complete_pos : (s.complete).pos = s.pos := rfl
@[simp] theorem State.complete_cmd : (s.complete).cmd = s.cmd := rfl
@[simp] theorem State.complete_stat : (s.complete).stat = 0 := rfl
@[simp] theorem State.complete_warn : (s.complete).warn = s.warn := rfl
@[simp] theorem State.complete_fatal : (s.complete).fatal = s.fatal := rfl
@[simp] theorem State.complete_bus : (s.complete).bus = s.bus := rfl
@[simp] theorem State.complete_rdata : (s.complete).rdata = s.rdata := rfl
@[simp] theorem State.complete_written : (s.complete).written = s.written := rfl

/-! ### `State.hostSetBlk` -/

@[simp] theorem State.hostSetBlk_blk (i : Fin 16) (v : Byte) :
    (s.hostSetBlk i v).blk =
      s.blk.set i v := rfl
@[simp] theorem State.hostSetBlk_pix8 (i : Fin 16) (v : Byte) :
    (s.hostSetBlk i v).pix8 =
      s.pix8 := rfl
@[simp] theorem State.hostSetBlk_pixh (i : Fin 16) (v : Byte) :
    (s.hostSetBlk i v).pixh =
      s.pixh := rfl
@[simp] theorem State.hostSetBlk_val (i : Fin 16) (v : Byte) : (s.hostSetBlk i v).val = s.val := rfl
@[simp] theorem State.hostSetBlk_pos (i : Fin 16) (v : Byte) : (s.hostSetBlk i v).pos = s.pos := rfl
@[simp] theorem State.hostSetBlk_cmd (i : Fin 16) (v : Byte) : (s.hostSetBlk i v).cmd = s.cmd := rfl
@[simp] theorem State.hostSetBlk_stat (i : Fin 16) (v : Byte) :
    (s.hostSetBlk i v).stat =
      s.stat := rfl
@[simp] theorem State.hostSetBlk_warn (i : Fin 16) (v : Byte) :
    (s.hostSetBlk i v).warn =
      s.warn := rfl
@[simp] theorem State.hostSetBlk_fatal (i : Fin 16) (v : Byte) :
    (s.hostSetBlk i v).fatal =
      s.fatal := rfl
@[simp] theorem State.hostSetBlk_bus (i : Fin 16) (v : Byte) : (s.hostSetBlk i v).bus = s.bus := rfl
@[simp] theorem State.hostSetBlk_rdata (i : Fin 16) (v : Byte) :
    (s.hostSetBlk i v).rdata =
      s.rdata := rfl
@[simp] theorem State.hostSetBlk_written (i : Fin 16) (v : Byte) :
    (s.hostSetBlk i v).written =
      { s.written with blk := s.written.blk.set i true } := rfl

/-! ### `State.hostSetPix8` -/

@[simp] theorem State.hostSetPix8_blk (i : Fin 16) (c : Channel) (v : Byte) :
    (s.hostSetPix8 i c v).blk =
      s.blk := rfl
@[simp] theorem State.hostSetPix8_pix8 (i : Fin 16) (c : Channel) (v : Byte) :
    (s.hostSetPix8 i c v).pix8 =
      s.pix8.set i ((s.pix8[i]).set c v) := rfl
@[simp] theorem State.hostSetPix8_pixh (i : Fin 16) (c : Channel) (v : Byte) :
    (s.hostSetPix8 i c v).pixh =
      s.pixh := rfl
@[simp] theorem State.hostSetPix8_val (i : Fin 16) (c : Channel) (v : Byte) :
    (s.hostSetPix8 i c v).val =
      s.val := rfl
@[simp] theorem State.hostSetPix8_pos (i : Fin 16) (c : Channel) (v : Byte) :
    (s.hostSetPix8 i c v).pos =
      s.pos := rfl
@[simp] theorem State.hostSetPix8_cmd (i : Fin 16) (c : Channel) (v : Byte) :
    (s.hostSetPix8 i c v).cmd =
      s.cmd := rfl
@[simp] theorem State.hostSetPix8_stat (i : Fin 16) (c : Channel) (v : Byte) :
    (s.hostSetPix8 i c v).stat =
      s.stat := rfl
@[simp] theorem State.hostSetPix8_warn (i : Fin 16) (c : Channel) (v : Byte) :
    (s.hostSetPix8 i c v).warn =
      s.warn := rfl
@[simp] theorem State.hostSetPix8_fatal (i : Fin 16) (c : Channel) (v : Byte) :
    (s.hostSetPix8 i c v).fatal =
      s.fatal := rfl
@[simp] theorem State.hostSetPix8_bus (i : Fin 16) (c : Channel) (v : Byte) :
    (s.hostSetPix8 i c v).bus =
      s.bus := rfl
@[simp] theorem State.hostSetPix8_rdata (i : Fin 16) (c : Channel) (v : Byte) :
    (s.hostSetPix8 i c v).rdata =
      s.rdata := rfl
@[simp] theorem State.hostSetPix8_written (i : Fin 16) (c : Channel) (v : Byte) :
    (s.hostSetPix8 i c v).written =
      { s.written with pix8 := s.written.pix8.set i ((s.written.pix8[i]).set c true) } := rfl

/-! ### `State.resetEvent` -/

@[simp] theorem State.resetEvent_blk : s.resetEvent.blk = Vector.replicate 16 0 := rfl
@[simp] theorem State.resetEvent_pix8 : s.resetEvent.pix8 = Vector.replicate 16 ⟨0, 0, 0, 0⟩ := rfl
@[simp] theorem State.resetEvent_pixh : s.resetEvent.pixh = Vector.replicate 16 ⟨0, 0, 0, 0⟩ := rfl
@[simp] theorem State.resetEvent_val : s.resetEvent.val = 0 := rfl
@[simp] theorem State.resetEvent_pos : s.resetEvent.pos = 0 := rfl
@[simp] theorem State.resetEvent_cmd : s.resetEvent.cmd = 0 := rfl
@[simp] theorem State.resetEvent_stat : s.resetEvent.stat = 0 := rfl
@[simp] theorem State.resetEvent_warn : s.resetEvent.warn = 0 := rfl
@[simp] theorem State.resetEvent_fatal : s.resetEvent.fatal = false := rfl
@[simp] theorem State.resetEvent_bus : s.resetEvent.bus = s.bus := rfl
@[simp] theorem State.resetEvent_rdata : s.resetEvent.rdata = s.rdata := rfl
@[simp] theorem State.resetEvent_written : s.resetEvent.written = Written.none := rfl

/-! ### The error action -/

variable (o : ErrorOutput) (c : Cause) (info pos : Nat)

@[simp] theorem State.errorOutput_blk : (s.errorOutput o c).blk = s.blk := by
  unfold State.errorOutput
  split <;> first | rfl | (split <;> rfl)

@[simp] theorem State.errorOutput_pos : (s.errorOutput o c).pos = s.pos := by
  unfold State.errorOutput
  split <;> first | rfl | (split <;> rfl)

@[simp] theorem State.errorOutput_cmd : (s.errorOutput o c).cmd = s.cmd := by
  unfold State.errorOutput
  split <;> first | rfl | (split <;> rfl)

@[simp] theorem State.errorOutput_stat : (s.errorOutput o c).stat = s.stat := by
  unfold State.errorOutput
  split <;> first | rfl | (split <;> rfl)

@[simp] theorem State.errorOutput_warn : (s.errorOutput o c).warn = s.warn := by
  unfold State.errorOutput
  split <;> first | rfl | (split <;> rfl)

@[simp] theorem State.errorOutput_fatal : (s.errorOutput o c).fatal = s.fatal := by
  unfold State.errorOutput
  split <;> first | rfl | (split <;> rfl)

@[simp] theorem State.errorOutput_bus : (s.errorOutput o c).bus = s.bus := by
  unfold State.errorOutput
  split <;> first | rfl | (split <;> rfl)

@[simp] theorem State.errorOutput_rdata : (s.errorOutput o c).rdata = s.rdata := by
  unfold State.errorOutput
  split <;> first | rfl | (split <;> rfl)

@[simp] theorem State.errorAction_blk :
    (s.errorAction o c info pos).blk = s.blk := by simp [State.errorAction]

@[simp] theorem State.errorAction_cmd :
    (s.errorAction o c info pos).cmd = s.cmd := by simp [State.errorAction]

@[simp] theorem State.errorAction_bus :
    (s.errorAction o c info pos).bus = s.bus := by simp [State.errorAction]

@[simp] theorem State.errorAction_rdata :
    (s.errorAction o c info pos).rdata = s.rdata := by simp [State.errorAction]

@[simp] theorem State.errorAction_pos :
    (s.errorAction o c info pos).pos = BitVec.ofNat 8 pos := by simp [State.errorAction]

@[simp] theorem State.errorAction_stat :
    (s.errorAction o c info pos).stat = statWord c info := by simp [State.errorAction]

@[simp] theorem State.errorAction_warn :
    (s.errorAction o c info pos).warn = warnWith s.warn c := by simp [State.errorAction]

@[simp] theorem State.errorAction_fatal :
    (s.errorAction o c info pos).fatal = (s.fatal || c == .contract) := by simp [State.errorAction]

@[simp] theorem State.errorAction_pix8 :
    (s.errorAction o c info pos).pix8 = (s.errorOutput o c).pix8 := rfl

@[simp] theorem State.errorAction_pixh :
    (s.errorAction o c info pos).pixh = (s.errorOutput o c).pixh := rfl

@[simp] theorem State.errorAction_val :
    (s.errorAction o c info pos).val = (s.errorOutput o c).val := rfl

@[simp] theorem State.errorAction_written :
    (s.errorAction o c info pos).written = (s.errorOutput o c).written := rfl

@[simp] theorem State.errorOutput_reserved : s.errorOutput .reserved c = s := rfl

@[simp] theorem State.errorOutput_bc6h :
    s.errorOutput .bc6h c = s.setPixh fun _ => bc6hErrorPixel := rfl

@[simp] theorem State.errorOutput_bc7 :
    s.errorOutput .bc7 c = s.setPix8 fun _ => bc7ErrorPixel := rfl

@[simp] theorem State.errorOutput_cursor_contract : s.errorOutput .cursor .contract = s := rfl

@[simp] theorem State.errorOutput_cursor_overrun :
    s.errorOutput .cursor .overrun = s.setVal 0 := rfl

end Sys2Proof.Machine
end

