-- ==== Sys2Proof/Laws/Ops.lean ====
section
/-! SUPPORT. One lemma per shared operation that says everything it can do: the block bit space, the
cursor, the walks, completion and the error action. -/

namespace Sys2Proof.Machine

/-! ## Pixels -/

@[simp] theorem Pixel.get_set_same {α : Type} (p : Pixel α) (c : Channel) (v : α) :
    (p.set c v).get c = v := by cases c <;> rfl

theorem Pixel.get_set_other {α : Type} (p : Pixel α) (c d : Channel) (v : α) (h : d ≠ c) :
    (p.set c v).get d = p.get d := by cases c <;> cases d <;> first | rfl | exact absurd rfl h

/-! ## The block bit space -/

theorem Block.byte_lt (b : Block) (j : Nat) : b.byte j < 256 := (b[j]?.getD 0).isLt

theorem Block.byte_eq (b : Block) (j : Fin 16) : b.byte j = (b[j]).toNat := by
  simp [Block.byte]

theorem Block.byte_above (b : Block) {j : Nat} (h : 16 ≤ j) : b.byte j = 0 := by
  have : ¬ j < 16 := by omega
  simp [Block.byte, this]

theorem Block.bit_lt (b : Block) (p : Nat) : b.bit p < 2 := Nat.mod_lt _ (by decide)

theorem Block.memRead_lt (b : Block) (p n : Nat) : b.memRead p n < 2 ^ n := by
  induction n with
  | zero => simp [Block.memRead]
  | succ n ih =>
    have hb := b.bit_lt (p + n)
    have hle : b.bit (p + n) * 2 ^ n ≤ 1 * 2 ^ n := Nat.mul_le_mul_right _ (by omega)
    rw [Block.memRead, pow_succ]
    omega

/-- A field's bits: the first is the bit at its address, the rest the field one bit further. -/
theorem Block.memRead_succ_low (b : Block) (p n : Nat) :
    b.memRead p (n + 1) = b.bit p + 2 * b.memRead (p + 1) n := by
  induction n with
  | zero => simp [Block.memRead]
  | succ n ih =>
    rw [Block.memRead, ih, Block.memRead, pow_succ, show p + (n + 1) = p + 1 + n by omega]
    ring

/-- Two adjacent fields are one. -/
theorem Block.memRead_add (b : Block) (p m n : Nat) :
    b.memRead p (m + n) = b.memRead p m + 2 ^ m * b.memRead (p + m) n := by
  induction n with
  | zero => simp [Block.memRead]
  | succ n ih =>
    rw [← Nat.add_assoc, Block.memRead, ih, Block.memRead, pow_add, Nat.add_assoc p m n]
    ring

/-- A field depends only on the bytes it touches. -/
theorem Block.memRead_congr {b c : Block} {p n : Nat}
    (h : ∀ k, k < n → b.byte ((p + k) / 8) = c.byte ((p + k) / 8)) :
    b.memRead p n = c.memRead p n := by
  induction n with
  | zero => rfl
  | succ n ih =>
    rw [Block.memRead, Block.memRead, ih fun k hk => h k (by omega), Block.bit, Block.bit,
      h n (by omega)]

/-! ## Walks -/

@[simp] theorem Walk.bind_ok {α β : Type} (v : α) (p : Nat) (f : α → Nat → Walk β) :
    (Walk.ok v p).bind f = f v p := rfl

@[simp] theorem Walk.bind_raise {α β : Type} (c : Cause) (i p : Nat) (f : α → Nat → Walk β) :
    (Walk.raise c i p).bind f = .raise c i p := rfl

theorem getBit_ok (b : Block) {L pos : Nat} (h : pos + 1 ≤ L) :
    getBit b L pos = .ok (b.bit pos) (pos + 1) := by simp [getBit, Nat.not_lt.mpr h]

theorem getBit_overrun (b : Block) {L pos : Nat} (h : pos + 1 > L) :
    getBit b L pos = .raise .overrun pos pos := by simp [getBit, h]

theorem getBits_contract (b : Block) (L pos : Nat) {n : Nat} (h : n > 8) :
    getBits b L n pos = .raise .contract n pos := by simp [getBits, h]

@[simp] theorem getBits_zero (b : Block) (L pos : Nat) : getBits b L 0 pos = .ok 0 pos := by
  simp [getBits]

theorem getBits_overrun (b : Block) {L n pos : Nat} (h8 : n ≤ 8) (h0 : 1 ≤ n) (h : pos + n > L) :
    getBits b L n pos = .raise .overrun pos pos := by
  simp [getBits, Nat.not_lt.mpr h8, Nat.ne_of_gt h0, h]

theorem getBits_ok (b : Block) {L n pos : Nat} (h8 : n ≤ 8) (h : pos + n ≤ L) :
    getBits b L n pos = .ok (b.memRead pos n) (pos + n) := by
  rcases Nat.eq_zero_or_pos n with rfl | h0
  · simp [Block.memRead]
  · simp [getBits, Nat.not_lt.mpr h8, Nat.ne_of_gt h0, Nat.not_lt.mpr h]

/-- Fields that fit are read, each where the widths before it end. -/
theorem readFields_ok (b : Block) (ns : List Nat) (pos : Nat) (h8 : ∀ n ∈ ns, n ≤ 8)
    (h : pos + ns.sum ≤ 128) :
    ∃ vs, readFields b ns pos = .ok vs (pos + ns.sum) ∧ vs.length = ns.length := by
  induction ns generalizing pos with
  | nil => exact ⟨[], rfl, rfl⟩
  | cons n ns ih =>
    simp only [List.sum_cons] at h
    obtain ⟨vs, hvs, hl⟩ := ih (pos + n) (fun m hm => h8 m (List.mem_cons_of_mem _ hm)) (by omega)
    refine ⟨b.memRead pos n :: vs, ?_, by simp [hl]⟩
    rw [readFields, getBits_ok b (h8 n List.mem_cons_self) (by omega)]
    simp [hvs, Nat.add_assoc]

/-- Bits that fit are read. -/
theorem readBits_ok (b : Block) {L : Nat} (n pos : Nat) (h : pos + n ≤ L) :
    ∃ vs, readBits b L n pos = .ok vs (pos + n) ∧ vs.length = n := by
  induction n generalizing pos with
  | zero => exact ⟨[], rfl, rfl⟩
  | succ n ih =>
    obtain ⟨vs, hvs, hl⟩ := ih (pos + 1) (by omega)
    refine ⟨b.bit pos :: vs, ?_, by simp [hl]⟩
    rw [readBits, getBit_ok b (by omega)]
    simp [hvs, show pos + 1 + n = pos + (n + 1) by omega]

/-- The width of the index field of pixel `i`. -/
def indexWidth (ip : Nat) (short : Nat → Bool) (i : Nat) : Nat := if short i then ip - 1 else ip

/-- The width of the index fields of the `n` pixels from `i` on. -/
def planeWidth (ip : Nat) (short : Nat → Bool) : (n i : Nat) → Nat
  | 0, _ => 0
  | n + 1, i => indexWidth ip short i + planeWidth ip short n (i + 1)

/-- An index plane that fits is read without an error, and every index is below `2 ^ ip`: neither
guard fires. -/
theorem readIndices_ok (b : Block) (ip : Nat) (short : Nat → Bool) (n i pos : Nat) (hip : ip ≤ 8)
    (h : pos + planeWidth ip short n i ≤ 128) :
    ∃ l, readIndices b ip short n i pos = .ok l (pos + planeWidth ip short n i) ∧
      l.length = n ∧ ∀ x ∈ l, x < 2 ^ ip := by
  induction n generalizing i pos with
  | zero => exact ⟨[], rfl, rfl, by simp⟩
  | succ n ih =>
    simp only [planeWidth] at h ⊢
    have hw : indexWidth ip short i ≤ ip := by unfold indexWidth; split <;> omega
    obtain ⟨l, hl, hlen, hlt⟩ := ih (i + 1) (pos + indexWidth ip short i) (by omega)
    have hlt0 : b.memRead pos (indexWidth ip short i) < 2 ^ ip :=
      Nat.lt_of_lt_of_le (b.memRead_lt _ _) (Nat.pow_le_pow_right (by decide) hw)
    refine ⟨b.memRead pos (indexWidth ip short i) :: l, ?_, by simp [hlen], ?_⟩
    · have hno : ¬ pos + indexWidth ip short i > 128 := by omega
      rw [readIndices, show (if short i then ip - 1 else ip) = indexWidth ip short i from rfl]
      rw [if_neg hno, getBits_ok b (by omega) (by omega)]
      simp [Nat.not_le.mpr hlt0, hl, Nat.add_assoc]
    · simpa using ⟨hlt0, hlt⟩

/-! ## Completion and the error action -/

@[simp] theorem State.finish_ok {α : Type} (s : State) (o : ErrorOutput) (v : α) (pos : Nat)
    (write : State → α → State) :
    s.finish o (.ok v pos) write = ((write s v).setPos pos).complete := rfl

@[simp] theorem State.finish_raise {α : Type} (s : State) (o : ErrorOutput) (c : Cause)
    (info pos : Nat) (write : State → α → State) :
    s.finish o (.raise c info pos : Walk α) write = s.errorAction o c info pos := rfl

/-- A command that ends in a walk completes with `STAT = 0` or takes the error action. -/
theorem State.finish_cases {α : Type} (s : State) (o : ErrorOutput) (w : Walk α)
    (write : State → α → State) :
    (∃ v pos, w = .ok v pos ∧ s.finish o w write = ((write s v).setPos pos).complete) ∨
      ∃ c info pos, w = .raise c info pos ∧ s.finish o w write = s.errorAction o c info pos := by
  cases w with
  | ok v pos => exact .inl ⟨v, pos, rfl, rfl⟩
  | raise c info pos => exact .inr ⟨c, info, pos, rfl, rfl⟩

theorem statWord_toNat (c : Cause) (info : Nat) :
    (statWord c info).toNat = info % 256 * 256 + c.code := by
  have hc : c.code < 256 := by cases c <;> decide
  simp only [statWord, BitVec.toNat_ofNat]
  omega

theorem statWord_cause (c : Cause) (info : Nat) :
    ((statWord c info).extractLsb' 0 3).toNat = c.code := by
  have hc : c.code < 8 := by cases c <;> decide
  simp [BitVec.extractLsb'_toNat, statWord_toNat]
  omega

theorem statWord_info (c : Cause) (info : Nat) :
    ((statWord c info).extractLsb' 8 8).toNat = info % 256 := by
  have hc : c.code < 8 := by cases c <;> decide
  simp [BitVec.extractLsb'_toNat, statWord_toNat, Nat.shiftRight_eq_div_pow]
  omega

/-! ## The host side -/

/-- What a step serves: nothing, or the oldest access. -/
theorem State.serve_nil (s : State) (h : s.bus = []) : s.serve = .settled s := by
  simp [State.serve, h]

theorem State.serve_cons (s : State) {x : HostAccess} {rest : List HostAccess}
    (h : s.bus = x :: rest) : s.serve = { s with bus := rest }.serveAccess x := by
  simp [State.serve, h]

/-- Every element of the register map is found at its own offset (R32). -/
@[simp] theorem hostReg_offset (r : HostReg) : hostReg r.offset = some r := by
  rcases r with i | _ | _ | _ | _ | _ | _ | ⟨i, c⟩ | ⟨i, c⟩
  case blk => fin_cases i <;> rfl
  case pix8 => fin_cases i <;> cases c <;> rfl
  case pixh => fin_cases i <;> cases c <;> rfl
  all_goals rfl

/-- `RD reg` takes the value of the element into the host's lane and does nothing else. -/
theorem State.serve_rd (s : State) {r : HostReg} {rest : List HostAccess} (h : s.bus = rd r :: rest) :
    s.serve = .settled { s with bus := rest, rdata := s.regValue r } := by
  rw [s.serve_cons h]
  cases r <;> simp [rd, serveAccess, hostRead, regValue]

/-- `WR CMD, w` is the acceptance of the command word. -/
theorem State.serve_wrcmd (s : State) {w : Word} {rest : List HostAccess} (h : s.bus = wrcmd w :: rest) :
    s.serve = { s with bus := rest }.acceptCommand w := by
  rw [s.serve_cons h]
  simp [wrcmd, wr, serveAccess]

/-- `WR reg, v` of any other element is a register write. -/
theorem State.serve_wr (s : State) {r : HostReg} {v : Word} {rest : List HostAccess}
    (h : s.bus = wr r v :: rest) (hr : r ≠ .cmd) :
    s.serve = .settled ({ s with bus := rest }.hostWrite r.offset v) := by
  rw [s.serve_cons h]
  simp [wr, serveAccess, hr]

/-! ## The host's expansions (30_encoding.md R112) -/

/-- `decode` ends in one read for each pixel channel the command writes. -/
theorem hostDecode_reads (f : Format) (block : List Byte) :
    (hostDecode f block).drop (block.length + 1) = f.pixelRegs.map rd := by
  simp [hostDecode, wrblk, List.drop_append]

/-- `encode` has an expansion exactly for the formats the BCU encodes. -/
theorem hostEncode_isSome (f : Format) (pixels : Vector (Pixel Byte) 16) :
    (hostEncode f pixels).isSome = f.encoder.isSome := by simp [hostEncode]

end Sys2Proof.Machine
end

