-- ==== Sys2Proof/Laws/PerInstr.lean ====
section
/-! SUPPORT. Statements made once per instruction. -/

namespace Sys2Proof.Laws.EncodingLength

/-- Whether an instruction is a block layout, encoded with a prefix byte after the command word. -/
def hasPrefix : Instr → Bool := fun i => (encodeParts i).2.isSome

/-- An instruction is four bytes, or five with a mode prefix byte (30_encoding.md R80, R105). -/
def Statement (i : Instr) : Prop := (encode i).length = if hasPrefix i then 5 else 4

theorem nop : Statement (.nop) := rfl
theorem clrw : Statement (.clrw) := rfl
theorem getbit (w64 : Bool) : Statement (.getbit w64) := rfl
theorem getbits (n : Byte) (w64 : Bool) : Statement (.getbits n w64) := rfl
theorem decBc1 (f4 : Bool) : Statement (.decBc1 f4) := rfl
theorem decBc2 : Statement (.decBc2) := rfl
theorem decBc3 : Statement (.decBc3) := rfl
theorem decBc4 (bias : Byte) (chan : Channel) : Statement (.decBc4 bias chan) := rfl
theorem decBc5 (bias : Byte) : Statement (.decBc5 bias) := rfl
theorem decBc6h (sgn : Bool) : Statement (.decBc6h sgn) := rfl
theorem decBc7 : Statement (.decBc7) := rfl
theorem encBc4 (bias : Byte) (chan : Channel) : Statement (.encBc4 bias chan) := rfl
theorem encBc5 (bias : Byte) : Statement (.encBc5 bias) := rfl
theorem reservedCmd (w : Word) : Statement (.reservedCmd w) := rfl
theorem bc6hMode1 (sgn : Bool) : Statement (.bc6hMode1 sgn) := rfl
theorem bc6hMode2 (sgn : Bool) : Statement (.bc6hMode2 sgn) := rfl
theorem bc6hMode3 (sgn : Bool) : Statement (.bc6hMode3 sgn) := rfl
theorem bc6hMode4 (sgn : Bool) : Statement (.bc6hMode4 sgn) := rfl
theorem bc6hMode5 (sgn : Bool) : Statement (.bc6hMode5 sgn) := rfl
theorem bc6hMode6 (sgn : Bool) : Statement (.bc6hMode6 sgn) := rfl
theorem bc6hMode7 (sgn : Bool) : Statement (.bc6hMode7 sgn) := rfl
theorem bc6hMode8 (sgn : Bool) : Statement (.bc6hMode8 sgn) := rfl
theorem bc6hMode9 (sgn : Bool) : Statement (.bc6hMode9 sgn) := rfl
theorem bc6hMode10 (sgn : Bool) : Statement (.bc6hMode10 sgn) := rfl
theorem bc6hMode11 (sgn : Bool) : Statement (.bc6hMode11 sgn) := rfl
theorem bc6hMode12 (sgn : Bool) : Statement (.bc6hMode12 sgn) := rfl
theorem bc6hMode13 (sgn : Bool) : Statement (.bc6hMode13 sgn) := rfl
theorem bc6hMode14 (sgn : Bool) : Statement (.bc6hMode14 sgn) := rfl
theorem bc6hReserved13 (sgn : Bool) : Statement (.bc6hReserved13 sgn) := rfl
theorem bc6hReserved17 (sgn : Bool) : Statement (.bc6hReserved17 sgn) := rfl
theorem bc6hReserved1B (sgn : Bool) : Statement (.bc6hReserved1B sgn) := rfl
theorem bc6hReserved1F (sgn : Bool) : Statement (.bc6hReserved1F sgn) := rfl
theorem bc7Mode0 : Statement (.bc7Mode0) := rfl
theorem bc7Mode1 : Statement (.bc7Mode1) := rfl
theorem bc7Mode2 : Statement (.bc7Mode2) := rfl
theorem bc7Mode3 : Statement (.bc7Mode3) := rfl
theorem bc7Mode4 : Statement (.bc7Mode4) := rfl
theorem bc7Mode5 : Statement (.bc7Mode5) := rfl
theorem bc7Mode6 : Statement (.bc7Mode6) := rfl
theorem bc7Mode7 : Statement (.bc7Mode7) := rfl
theorem bc7Reserved : Statement (.bc7Reserved) := rfl

end Sys2Proof.Laws.EncodingLength
end

