-- ==== Sys2Proof/Tests/Slice0.lean ====
section
/-! SUPPORT. The model's own tests: well-formedness, decoding by words written out from the spec's
encodings, one step on the spec's worked examples (95_test_vectors.md and the examples of 40, 43 to
46), and for every statement with hypotheses a concrete witness that meets them. -/

set_option maxRecDepth 20000

namespace Sys2Proof.Tests
open Sys2Proof.Machine

/-! ## Small states -/

/-- The next state of an outcome. -/
def nextOf : Host.Outcome State Fault Refusal → Option State
  | .next t => some t
  | .fault _ => none
  | .refused _ => none

/-- A block of the given bytes. -/
def block (bytes : List Nat) : Block := Vector.ofFn fun j : Fin 16 => BitVec.ofNat 8 (bytes.getD j 0)

/-- The reset state with a block loaded. -/
def loaded (bytes : List Nat) : State :=
  { State.reset with
    blk := block bytes
    written := { Written.none with blk := Vector.replicate 16 true } }

/-- The reset state with one channel of `PIX8` loaded. -/
def sampled (c : Channel) (samples : List Nat) : State :=
  State.reset.setPix8Channel c fun i => BitVec.ofNat 8 (samples.getD i 0)

/-- The state after the host writes `w` to `CMD`. -/
def run (s : State) (w : Word) : Option State := nextOf (step { s with bus := [.write 0x10 w] })

/-- What most tests look at: two pixels of `PIX8`, `POS` and `STAT`. -/
def seen8 (i j : Fin 16) (t : State) : Pixel Byte × Pixel Byte × Byte × Word :=
  (t.pix8[i], t.pix8[j], t.pos, t.stat)

/-- The same of `PIXH`. -/
def seenH (i j : Fin 16) (t : State) : Pixel Half × Pixel Half × Byte × Word :=
  (t.pixh[i], t.pixh[j], t.pos, t.stat)

/-- The first eight bytes of `BLK` as numbers. -/
def low8 (t : State) : List Nat := (List.range 8).map t.blk.byte

/-! ## Well-formedness (30_encoding.md R83) -/

/-- A command word of the table is no reserved word. -/
theorem test_wellFormed_refuses_table_word : (Instr.reservedCmd 0x00000011).wellFormed = false := by decide

theorem test_wellFormed_accepts_unknown_op : (Instr.reservedCmd 0x00000010).wellFormed = true := by decide

theorem test_wellFormed_accepts_high_bit : (Instr.reservedCmd 0x80000000).wellFormed = true := by decide

theorem test_wellFormed_accepts_commands :
    (Instr.decBc4 255 .a).wellFormed = true ∧ (Instr.bc6hReserved1F true).wellFormed = true := by decide

/-! ## Decoding: every constructor, by a word written out from 30_encoding.md R80, R81, R100, R101, R103 -/

theorem test_decode_nop : decodeWord 0b00000000000000000000000000000000 = .nop := by decide

theorem test_decode_clrw : decodeWord 0b00000000000000000000000000000001 = .clrw := by decide

theorem test_decode_getbit : decodeWord 0b00000000000100000000000000001000 = .getbit true := by decide

theorem test_decode_getbits : decodeWord 0b00000000000100000000010100001001 = .getbits 5 true := by decide

theorem test_decode_decBc1 : decodeWord 0b00000000000001000000000000010001 = .decBc1 true := by decide

theorem test_decode_decBc2_ignores_unused_fields : decodeWord 0b00000000000011110000000000010010 = .decBc2 := by decide

theorem test_decode_decBc3 : decodeWord 0b00000000000000000000000000010011 = .decBc3 := by decide

theorem test_decode_decBc4 : decodeWord 0b00000000000000101000000000010100 = .decBc4 128 .b := by decide

theorem test_decode_decBc5 : decodeWord 0b00000000000000001000000100010101 = .decBc5 129 := by decide

theorem test_decode_decBc6h : decodeWord 0b00000000000010000000000000010110 = .decBc6h true := by decide

theorem test_decode_decBc7 : decodeWord 0b00000000000000000000000000010111 = .decBc7 := by decide

theorem test_decode_encBc4 : decodeWord 0b00000000000000010000011100100100 = .encBc4 7 .g := by decide

theorem test_decode_encBc5 : decodeWord 0b00000000000000001000000000100101 = .encBc5 128 := by decide

theorem test_decode_reservedCmd :
    decodeWord 0b00000000000000000000000000000010 = .reservedCmd 2 ∧
      decodeWord 0b00000000001000000000000000010001 = .reservedCmd 0x00200011 := by decide

/-- The bytes of `DEC_BC6H` with a prefix byte, low byte first. -/
def withPrefix6 (sgnByte p : Byte) : Option Instr := (decode [0x16, 0x00, sgnByte, 0x00, p]).toOption

/-- The same of `DEC_BC7`. -/
def withPrefix7 (p : Byte) : Option Instr := (decode [0x17, 0x00, 0x00, 0x00, p]).toOption

/-- The two-bit prefixes; the three bits above are the block's. -/
theorem test_decode_bc6h_two_bit_modes :
    withPrefix6 0x00 0b00000000 = some (.bc6hMode1 false) ∧ withPrefix6 0x08 0b11111100 = some (.bc6hMode1 true) ∧
      withPrefix6 0x00 0b00000001 = some (.bc6hMode2 false) ∧
      withPrefix6 0x08 0b11111101 = some (.bc6hMode2 true) := by decide

/-- The five-bit prefixes `xxx10`; bits 7 to 5 are the block's. -/
theorem test_decode_bc6h_five_bit_modes_10 :
    withPrefix6 0x00 0b11100010 = some (.bc6hMode3 false) ∧ withPrefix6 0x00 0b00000110 = some (.bc6hMode4 false) ∧
      withPrefix6 0x00 0b01001010 = some (.bc6hMode5 false) ∧ withPrefix6 0x00 0b00001110 = some (.bc6hMode6 false) ∧
      withPrefix6 0x08 0b00010010 = some (.bc6hMode7 true) ∧ withPrefix6 0x08 0b00010110 = some (.bc6hMode8 true) ∧
      withPrefix6 0x08 0b10011010 = some (.bc6hMode9 true) ∧
      withPrefix6 0x08 0b00011110 = some (.bc6hMode10 true) := by decide

/-- The five-bit prefixes `0xx11`. -/
theorem test_decode_bc6h_five_bit_modes_11 :
    withPrefix6 0x00 0b00000011 = some (.bc6hMode11 false) ∧ withPrefix6 0x00 0b11100111 = some (.bc6hMode12 false) ∧
      withPrefix6 0x08 0b00001011 = some (.bc6hMode13 true) ∧
      withPrefix6 0x08 0b00001111 = some (.bc6hMode14 true) := by decide

/-- The reserved prefixes `1xx11`. -/
theorem test_decode_bc6h_reserved :
    withPrefix6 0x00 0b11110011 = some (.bc6hReserved13 false) ∧ withPrefix6 0x00 0b00010111 = some (.bc6hReserved17 false) ∧
      withPrefix6 0x08 0b00011011 = some (.bc6hReserved1B true) ∧
      withPrefix6 0x08 0b11111111 = some (.bc6hReserved1F true) := by decide

/-- The unary prefixes; the bits above the one are the block's (45_bc7_decode.md R265). -/
theorem test_decode_bc7_modes :
    withPrefix7 0b11111111 = some .bc7Mode0 ∧ withPrefix7 0b11111110 = some .bc7Mode1 ∧
      withPrefix7 0b00000100 = some .bc7Mode2 ∧ withPrefix7 0b11111000 = some .bc7Mode3 ∧
      withPrefix7 0b00010000 = some .bc7Mode4 ∧ withPrefix7 0b10100000 = some .bc7Mode5 ∧
      withPrefix7 0b01000000 = some .bc7Mode6 ∧ withPrefix7 0b10000000 = some .bc7Mode7 ∧
      withPrefix7 0b00000000 = some .bc7Reserved := by decide

theorem test_decode_rejects_by_name :
    decode [] = .error .length ∧ decode [0, 0, 0] = .error .length ∧
      decode [0x11, 0, 0, 0, 0x01] = .error .noPrefix := by
  exact ⟨rfl, rfl, rfl⟩

theorem test_decodeTableWord :
    decodeTableWord 32 0x00000509 = some (.getbits 5 false) ∧ decodeTableWord 8 0x13 = some (.bc6hReserved13 false) ∧
      decodeTableWord 8 0x20 = some .bc7Mode5 ∧ decodeTableWord 16 0 = some .bc7Reserved := by decide

/-- `DEC_BC4S b` is `DEC_BC4` with bias 128 (30_encoding.md R112). -/
theorem test_pseudo_signed : pseudoDecBc4 true .b = decodeWord 0x00028014 := by decide

/-! ## One step on the spec's examples -/

/-- 95 part 2.8: `NOP` clears `STAT` and keeps `WARN`. -/
theorem test_nop :
    (run { State.reset with stat := 0x1301, warn := 1 } 0x00000000).map (fun t => (t.stat, t.warn)) =
      some (0, 1) := by decide

/-- 95 part 2.8: `CLRW` clears both. -/
theorem test_clrw :
    (run { State.reset with stat := 0x1301, warn := 0x0F } 0x00000001).map (fun t => (t.stat, t.warn)) =
      some (0, 0) := by decide

/-- 95 part 2.8: a reserved op. -/
theorem test_reserved_op :
    (run State.reset 0x000000FF).map (fun t => (t.stat, t.warn, t.fatal)) =
      some (0x0000FF05, 0x08, false) := by decide

/-- 95 part 2.8: bit 21 set; `DEC_BC1` is not performed. -/
theorem test_reserved_high_bit :
    (run (sampled .r [9]) 0x00200011).map (fun t => (t.stat, t.warn, t.pix8[0].r, t.pos)) =
      some (0x00001105, 0x08, 9, 0) := by decide

/-- 95 part 2.8: under `FATAL` a command is stored in `CMD` and nothing else happens. -/
theorem test_fatal_ignores_commands :
    run { State.reset with fatal := true, stat := 0x904 } 0x00000001 =
      some { State.reset with fatal := true, stat := 0x904, cmd := 1 } := by decide

/-- The block of 95 part 2.1. -/
def cursorBlock : List Nat :=
  [0x10, 0x32, 0x54, 0x76, 0x98, 0xBA, 0xDC, 0xFE, 0x0F, 0x1E, 0x2D, 0x3C, 0x4B, 0x5A, 0x69, 0xA5]

/-- `VAL`, `POS`, `STAT`, `WARN`, `FATAL` after a command with the cursor at `p` and `VAL` 0xEE. -/
def cursorAfter (p : Byte) (w : Word) : Option (Byte × Byte × Word × Byte × Bool) :=
  (run { loaded cursorBlock with pos := p, val := 0xEE } w).map fun t => (t.val, t.pos, t.stat, t.warn, t.fatal)

/-- 95 part 2.1: the last bit, and the limit of `w64`. -/
theorem test_getbit_last :
    cursorAfter 127 0x00000008 = some (1, 128, 0, 0, false) ∧
      cursorAfter 63 0x00100008 = some (1, 64, 0, 0, false) := by decide

theorem test_getbit_overrun :
    cursorAfter 128 0x00000008 = some (0, 128, 0x00008002, 2, false) ∧
      cursorAfter 64 0x00100008 = some (0, 64, 0x00004002, 2, false) := by decide

/-- 95 part 2.1 and S3: fields across byte boundaries. -/
theorem test_getbits_straddles :
    cursorAfter 6 0x00000509 = some (0x08, 11, 0, 0, false) ∧
      cursorAfter 120 0x00000809 = some (0xA5, 128, 0, 0, false) ∧
      cursorAfter 200 0x00000009 = some (0, 200, 0, 0, false) := ⟨by decide, by decide, by decide⟩

theorem test_getbits_errors :
    cursorAfter 121 0x00000809 = some (0, 121, 0x00007902, 2, false) ∧
      cursorAfter 60 0x00100509 = some (0, 60, 0x00003C02, 2, false) ∧
      cursorAfter 127 0x0000FF09 = some (0xEE, 127, 0x0000FF04, 0, true) :=
  ⟨by decide, by decide, by decide⟩

/-- 95 S1. -/
theorem test_decBc1_red :
    (run (loaded [0x00, 0xF8, 0x00, 0x00, 0x00, 0x00, 0x00, 0x00]) 0x00000011).map (seen8 0 15) =
      some (⟨255, 0, 0, 255⟩, ⟨255, 0, 0, 255⟩, 64, 0x00000000) := by decide

/-- 95 part 2.4: the three-colour branch and its sentinel. -/
theorem test_decBc1_three_colours :
    (run (loaded [0x1F, 0x00, 0x00, 0xF8, 0xE4, 0xE4, 0xE4, 0xE4]) 0x00000011).map (seen8 2 15) =
      some (⟨128, 0, 128, 255⟩, ⟨0, 0, 0, 0⟩, 64, 0x00000000) := by decide

/-- 95 part 2.4: forced four colours. -/
theorem test_decBc2 :
    (run (loaded [0xF0, 0x0F, 0xA5, 0x5A, 0x00, 0xFF, 0x12, 0x80, 0x1F, 0x00, 0x00, 0xF8, 0xE4, 0xE4, 0xE4, 0xE4]) 0x00000012).map (seen8 2 4) =
      some (⟨85, 0, 170, 255⟩, ⟨0, 0, 255, 85⟩, 128, 0x00000000) := by decide

/-- 95 part 2.4. -/
theorem test_decBc3 :
    (run (loaded [0xFF, 0x00, 0x88, 0xC6, 0xFA, 0x88, 0xC6, 0xFA, 0x1F, 0x00, 0x00, 0xF8, 0xE4, 0xE4, 0xE4, 0xE4]) 0x00000013).map (seen8 2 7) =
      some (⟨85, 0, 170, 218⟩, ⟨170, 0, 85, 36⟩, 128, 0x00000000) := by decide

/-- 95 part 2.4: six values, and the other channels keep theirs. -/
theorem test_decBc4_six_values :
    (run { loaded [0x81, 0x7F, 0x88, 0xC6, 0xFA] with pix8 := Vector.replicate 16 ⟨1, 2, 3, 4⟩ } 0x00008014).map
        (seen8 4 6) = some (⟨0x19, 2, 3, 4⟩, ⟨0x80, 2, 3, 4⟩, 64, 0) := by decide

/-- 95 part 2.4: the signed bias. -/
theorem test_decBc5_signed :
    (run { loaded [0x7F, 0x81, 0x88, 0xC6, 0xFA, 0x88, 0xC6, 0xFA, 0x81, 0x7F, 0x88, 0xC6, 0xFA, 0x88, 0xC6, 0xFA] with
          pix8 := Vector.replicate 16 ⟨1, 2, 3, 4⟩ } 0x00008015).map (seen8 2 15) =
      some (⟨0x5A, 0xB3, 3, 4⟩, ⟨0xA5, 0x7F, 3, 4⟩, 128, 0) := by decide

/-- 44_bc6h_decode.md R247 (a), mode 11. -/
theorem test_decBc6h_unsigned :
    (run (loaded [0x03, 0x00, 0x00, 0xFF, 0xFF, 0x1F, 0xC0, 0x00, 0x10, 0x32, 0x54, 0x76, 0x98, 0xBA, 0xDC, 0xFE]) 0x00000016).map (seenH 1 15) =
      some (⟨0x07C0, 0x3E0F, 0x7442, 0x3C00⟩, ⟨0x7BFF, 0x3E0F, 0x002E, 0x3C00⟩, 128, 0x00000000) := by decide

/-- R247 (b). -/
theorem test_decBc6h_signed :
    (run (loaded [0x03, 0x00, 0x00, 0xFF, 0xFF, 0x1F, 0xC0, 0x00, 0x10, 0x32, 0x54, 0x76, 0x98, 0xBA, 0xDC, 0xFE]) 0x00080016).map (seenH 1 15) =
      some (⟨0x8005, 0xFBFF, 0x8051, 0x3C00⟩, ⟨0x805D, 0xFBFF, 0x005D, 0x3C00⟩, 128, 0x00000000) := by decide

/-- R247 (d): wrap-around of the inverse transform. -/
theorem test_bc6hMode1_unsigned :
    (run (loaded [0x4C, 0x00, 0x00, 0xD1, 0xEF, 0xE0, 0x95, 0xF0, 0x81, 0x00, 0xF0, 0x1D, 0xC7, 0x63, 0x75, 0xC4]) 0x00000016).map (seenH 1 11) =
      some (⟨0x7BFF, 0x3FE0, 0x7946, 0x3C00⟩, ⟨0x0063, 0x3DB0, 0x7961, 0x3C00⟩, 128, 0x00000000) := by decide

/-- R247 (d), signed. -/
theorem test_bc6hMode1_signed :
    (run (loaded [0x4C, 0x00, 0x00, 0xD1, 0xEF, 0xE0, 0x95, 0xF0, 0x81, 0x00, 0xF0, 0x1D, 0xC7, 0x63, 0x75, 0xC4]) 0x00080016).map (seenH 0 15) =
      some (⟨0x009B, 0xFBFF, 0x85EF, 0x3C00⟩, ⟨0x00B5, 0x115B, 0x85C4, 0x3C00⟩, 128, 0x00000000) := by decide

/-- R247 (f): sixteen-bit components. -/
theorem test_bc6hMode14_signed :
    (run (loaded [0xEF, 0x7F, 0x00, 0xFE, 0x87, 0x1F, 0x02, 0xF0, 0xF0, 0xFF, 0xFF, 0xFF, 0xFF, 0xFF, 0xFF, 0xFF]) 0x00080016).map (seenH 0 9) =
      some (⟨0x0000, 0xFC00, 0x781F, 0x3C00⟩, ⟨0x0000, 0xFC00, 0x781F, 0x3C00⟩, 128, 0x00000000) := by decide

/-- The last fifteen bytes of the blocks of the modes for which the spec prints no vector. The results
below were computed outside the model, from the tables and rules of 42, 44 and 45 alone. -/
def tailBytes : List Nat :=
  [0x5B, 0xC6, 0x2D, 0x93, 0xE8, 0x71, 0x4E, 0xB5, 0x1C, 0xD7, 0x6A, 0x39, 0xF2, 0x84, 0xA3]

theorem test_bc6hMode2 :
    (run (loaded (0xA9 :: tailBytes)) 0x00000016).map (seenH 5 11) =
      some (⟨0x5F7B, 0x1032, 0x1D6D, 0x3C00⟩, ⟨0x6AC6, 0x2235, 0x0C71, 0x3C00⟩, 128, 0) := by decide

theorem test_bc6hMode3 :
    (run (loaded (0xA2 :: tailBytes)) 0x00080016).map (seenH 5 11) =
      some (⟨0x5858, 0x6DFA, 0xCB08, 0x3C00⟩, ⟨0x580F, 0x6E4B, 0xCBB0, 0x3C00⟩, 128, 0) := by decide

theorem test_bc6hMode4 :
    (run (loaded (0xA6 :: tailBytes)) 0x00000016).map (seenH 5 11) =
      some (⟨0x6A71, 0x3743, 0x568B, 0x3C00⟩, ⟨0x6A07, 0x36B9, 0x563B, 0x3C00⟩, 128, 0) := by decide

theorem test_bc6hMode5 :
    (run (loaded (0xAA :: tailBytes)) 0x00080016).map (seenH 5 11) =
      some (⟨0xA33B, 0x6DFA, 0x3116, 0x3C00⟩, ⟨0xA40F, 0x6E4B, 0x31E4, 0x3C00⟩, 128, 0) := by decide

theorem test_bc6hMode6 :
    (run (loaded (0xAE :: tailBytes)) 0x00000016).map (seenH 5 11) =
      some (⟨0x34B0, 0x610C, 0x622D, 0x3C00⟩, ⟨0x341F, 0x5EE4, 0x61F3, 0x3C00⟩, 128, 0) := by decide

theorem test_bc6hMode7 :
    (run (loaded (0xB2 :: tailBytes)) 0x00080016).map (seenH 5 11) =
      some (⟨0x9D7C, 0xECC5, 0xE843, 0x3C00⟩, ⟨0x9231, 0xF50C, 0xE814, 0x3C00⟩, 128, 0) := by decide

theorem test_bc6hMode8 :
    (run (loaded (0xB6 :: tailBytes)) 0x00000016).map (seenH 5 11) =
      some (⟨0x6961, 0x4619, 0x485A, 0x3C00⟩, ⟨0x683F, 0x3D6C, 0x47E6, 0x3C00⟩, 128, 0) := by decide

theorem test_bc6hMode9 :
    (run (loaded (0xBA :: tailBytes)) 0x00080016).map (seenH 5 11) =
      some (⟨0xA634, 0xECC5, 0xDF8B, 0x3C00⟩, ⟨0xA879, 0xF50C, 0xABDD, 0x3C00⟩, 128, 0) := by decide

theorem test_bc6hMode10 :
    (run (loaded (0xBE :: tailBytes)) 0x00000016).map (seenH 5 11) =
      some (⟨0x3329, 0x19DA, 0x2EDD, 0x3C00⟩, ⟨0x443C, 0x2D2B, 0x6A42, 0x3C00⟩, 128, 0) := by decide

theorem test_bc6hMode12 :
    (run (loaded (0xA7 :: tailBytes)) 0x00000016).map (seenH 5 11) =
      some (⟨0x2007, 0x6F20, 0x5EBA, 0x3C00⟩, ⟨0x1E00, 0x6E2A, 0x600E, 0x3C00⟩, 128, 0) := by decide

theorem test_bc6hMode13 :
    (run (loaded (0xAB :: tailBytes)) 0x00080016).map (seenH 5 11) =
      some (⟨0xCEB6, 0x8CEF, 0x5168, 0x3C00⟩, ⟨0xCE8F, 0x8DE5, 0x508E, 0x3C00⟩, 128, 0) := by decide

theorem test_bc6hReserved13 :
    (run (loaded [0xF3, 0xFF]) 0x00000016).map (seenH 0 15) =
      some (⟨0, 0, 0, 0x3C00⟩, ⟨0, 0, 0, 0x3C00⟩, 5, 0x00001301) := by decide

theorem test_bc6hReserved17 :
    (run (loaded [0xF7, 0xFF]) 0x00080016).map (seenH 0 15) =
      some (⟨0, 0, 0, 0x3C00⟩, ⟨0, 0, 0, 0x3C00⟩, 5, 0x00001701) := by decide

theorem test_bc6hReserved1B :
    (run (loaded [0xFB, 0xFF]) 0x00000016).map (seenH 0 15) =
      some (⟨0, 0, 0, 0x3C00⟩, ⟨0, 0, 0, 0x3C00⟩, 5, 0x00001B01) := by decide

theorem test_bc6hReserved1F :
    (run (loaded [0xFF, 0xFF]) 0x00080016).map (seenH 0 15) =
      some (⟨0, 0, 0, 0x3C00⟩, ⟨0, 0, 0, 0x3C00⟩, 5, 0x00001F01) := by decide

/-- 95 part 2.6 (d). -/
theorem test_bc7Mode0 :
    (run (loaded [0x15, 0xFE, 0x01, 0x1E, 0x1E, 0x1E, 0x1E, 0x1E, 0xE0, 0xC1, 0xA4, 0x3A, 0xE3, 0x50, 0x9D, 0xF1]) 0x00000017).map (seen8 5 14) =
      some (⟨219, 42, 7, 255⟩, ⟨219, 219, 42, 255⟩, 128, 0x00000000) := by decide

/-- 95 part 2.6 (c). -/
theorem test_bc7Mode1 :
    (run (loaded [0x36, 0xC0, 0xFF, 0x03, 0xC0, 0x0F, 0x00, 0xC0, 0x0F, 0xFC, 0x32, 0x87, 0x57, 0x31, 0x87, 0x57]) 0x00000017).map (seen8 5 9) =
      some (⟨253, 253, 253, 255⟩, ⟨148, 2, 109, 255⟩, 128, 0x00000000) := by decide

/-- 95 part 2.6 (e). -/
theorem test_bc7Mode2 :
    (run (loaded [0xFC, 0xC1, 0xFF, 0x00, 0x7C, 0xF0, 0xC1, 0x07, 0x1F, 0x7C, 0x00, 0x3E, 0x90, 0xC9, 0xE5, 0xE4]) 0x00000017).map (seen8 1 10) =
      some (⟨171, 84, 0, 255⟩, ⟨171, 171, 171, 255⟩, 128, 0x00000000) := by decide

/-- 95 part 2.6 (f). -/
theorem test_bc7Mode3 :
    (run (loaded [0x18, 0x02, 0xFE, 0x7F, 0x00, 0xE0, 0x0F, 0xF8, 0x03, 0xFE, 0x40, 0xA0, 0xC9, 0xC9, 0xC9, 0xC9]) 0x00000017).map (seen8 6 15) =
      some (⟨84, 171, 128, 255⟩, ⟨171, 84, 129, 255⟩, 128, 0x00000000) := by decide

/-- 95 S8: rotation 1, selector 1. -/
theorem test_bc7Mode4_selector :
    (run (loaded [0xB0, 0xE0, 0x83, 0x0F, 0x3E, 0xF0, 0xCB, 0xC9, 0xC9, 0xC9, 0x79, 0xAC, 0x8E, 0x78, 0xAC, 0x8E]) 0x00000017).map (seen8 2 13) =
      some (⟨171, 36, 36, 36⟩, ⟨84, 183, 183, 183⟩, 128, 0x00000000) := by decide

/-- 95 part 2.6 (h). -/
theorem test_bc7Mode4_plain :
    (run (loaded [0x10, 0xE0, 0x83, 0x0F, 0x3E, 0xF0, 0xCB, 0xC9, 0xC9, 0xC9, 0x79, 0xAC, 0x8E, 0x78, 0xAC, 0x8E]) 0x00000017).map (seen8 2 13) =
      some (⟨171, 171, 171, 36⟩, ⟨84, 84, 84, 183⟩, 128, 0x00000000) := by decide

/-- 95 part 2.6 (g2). -/
theorem test_bc7Mode5_rotation2 :
    (run (loaded [0xA0, 0x7F, 0x00, 0xE0, 0x0F, 0x04, 0x02, 0xFC, 0xCB, 0xC9, 0xC9, 0xC9, 0x1B, 0x1B, 0x1B, 0x1B]) 0x00000017).map (seen8 1 3) =
      some (⟨171, 171, 129, 84⟩, ⟨0, 0, 129, 255⟩, 128, 0x00000000) := by decide

/-- 95 part 2.6 (g3). -/
theorem test_bc7Mode5_rotation3 :
    (run (loaded [0xE0, 0x7F, 0x00, 0xE0, 0x0F, 0x04, 0x02, 0xFC, 0xCB, 0xC9, 0xC9, 0xC9, 0x1B, 0x1B, 0x1B, 0x1B]) 0x00000017).map (seen8 1 3) =
      some (⟨171, 84, 171, 129⟩, ⟨0, 255, 0, 129⟩, 128, 0x00000000) := by decide

/-- 95 part 2.6 (b). -/
theorem test_bc7Mode6 :
    (run (loaded [0xC0, 0x3F, 0x00, 0xF0, 0x07, 0x02, 0x03, 0xFE, 0xF0, 0xE1, 0xD2, 0xC3, 0xB4, 0xA5, 0x96, 0x87]) 0x00000017).map (seen8 2 14) =
      some (⟨239, 17, 129, 19⟩, ⟨135, 120, 129, 120⟩, 128, 0x00000000) := by decide

/-- 95 part 2.6 (i). -/
theorem test_bc7Mode7 :
    (run (loaded [0x80, 0x00, 0xF8, 0x1F, 0x80, 0x0F, 0x00, 0xF8, 0xE0, 0x83, 0xFF, 0xC1, 0xC8, 0xC9, 0xC9, 0xC9]) 0x00000017).map (seen8 1 15) =
      some (⟨86, 86, 86, 86⟩, ⟨169, 0, 82, 169⟩, 128, 0x00000000) := by decide

/-- 95 part 2.6 (j). -/
theorem test_bc7Reserved :
    (run (loaded [0x00, 0xFF, 0xFF]) 0x00000017).map (seen8 0 15) =
      some (⟨0, 0, 0, 0⟩, ⟨0, 0, 0, 0⟩, 8, 0x00000801) := by decide

/-- 95 part 2.7: sixteen samples of 100, an early exit. -/
theorem test_encBc4_constant :
    (run (sampled .r (List.replicate 16 100)) 0x00000024).map (fun t => (low8 t, t.pos, t.stat)) =
      some ([0x60, 0x64, 0x49, 0x92, 0x24, 0x49, 0x92, 0x24], 64, 0) := by decide

/-- 95 part 2.7: stored signed bytes, all 0xFF, in channel a. -/
theorem test_encBc4_signed :
    (run (sampled .a (List.replicate 16 0xFF)) 0x00038024).map (fun t => (low8 t, t.pos, t.stat)) =
      some ([0xFB, 0xFF, 0x49, 0x92, 0x24, 0x49, 0x92, 0x24], 64, 0) := by decide

/-- 95 part 2.7, two rows: channel g all 255, channel r all 0. -/
theorem test_encBc5 :
    (run (sampled .g (List.replicate 16 255)) 0x00000025).map
        (fun t => ((List.range 16).map t.blk.byte, t.pos, t.stat)) =
      some ([0, 0, 0, 0, 0, 0, 0, 0, 0xFB, 0xFB, 0xFF, 0xFF, 0xFF, 0xFF, 0xFF, 0xFF], 128, 0) := by decide

/-! ## The host side (10_state.md R32, R37; 30_encoding.md R111, R112) -/

/-- The host operations of 95 part 3, P1: eight bytes, the command, the pixel registers. -/
theorem test_hostDecode_bc1 :
    let p := hostDecode (.bc1 false) [0x00, 0xF8, 0, 0, 0, 0, 0, 0]
    p.take 2 = [.write 0 0x00, .write 1 0xF8] ∧ p[8]? = some (.write 0x10 0x00000011) ∧
      p[9]? = some (.read 0x40) ∧ p.getLast? = some (.read 0x7F) ∧ p.length = 8 + 1 + 64 :=
  ⟨by decide, by decide, by decide, by decide, by decide⟩

/-- BC6H reads `PIXH`; BC4 reads the one channel it wrote (95 P3, the last two lines; P6). -/
theorem test_hostDecode_registers :
    (hostDecode (.bc6h true) []).head? = some (.write 0x10 0x00080016) ∧
      (hostDecode (.bc6h true) []).getLast? = some (.read 0xFE) ∧
      (hostDecode (.bc4 0 .a) []).take 3 = [.write 0x10 0x00030014, .read 0x43, .read 0x47] ∧
      (hostDecode (.bc4 0 .a) []).length = 17 := ⟨by decide, by decide, by decide, by decide⟩

/-- 95 part 3, P3: the samples of channel r, `ENC_BC4`, the eight bytes of the block. -/
theorem test_hostEncode_bc4 :
    (hostEncode (.bc4 0 .r) (Vector.replicate 16 ⟨10, 20, 30, 40⟩)).map
        (fun p => (p.take 2, p.drop 15)) =
      some ([.write 0x40 10, .write 0x44 10],
        [.write 0x7C 10, .write 0x10 0x00000024, .read 0, .read 1, .read 2, .read 3, .read 4, .read 5,
          .read 6, .read 7]) := by decide

theorem test_hostEncode_bc5_and_others :
    (hostEncode (.bc5 128) (Vector.replicate 16 ⟨10, 20, 30, 40⟩)).map
        (fun p => (p.take 2, p[32]?, p.drop 33)) =
      some ([.write 0x40 10, .write 0x41 20], some (.write 0x10 0x00008025), (List.range 16).map .read) ∧
      hostEncode .bc7 (Vector.replicate 16 ⟨0, 0, 0, 0⟩) = none := ⟨by decide, by decide⟩

theorem test_host_read_pixh :
    (nextOf (step { State.reset with
        bus := [.read 0x8A], pixh := Vector.replicate 16 ⟨0x1111, 0x2222, 0x3333, 0x4444⟩ })).map State.rdata =
      some 0x2222 := by decide

theorem test_host_read_unmapped :
    (nextOf (step { State.reset with bus := [.read 0x20], rdata := 7 })).map State.rdata = some 0 := by decide

theorem test_host_write_pix8 :
    (nextOf (step { State.reset with bus := [.write 0x7F 0x1FF] })).map (fun t => t.pix8[15]) =
      some ⟨0, 0, 0, 0xFF⟩ := by decide

theorem test_host_write_read_only :
    nextOf (step { State.reset with bus := [.write 0x1A 0xFF] }) = some State.reset := by decide

/-- Only reset clears `FATAL` (R31); it clears the control registers (R380). -/
theorem test_reset_access :
    (nextOf (step { State.reset with bus := [.reset], fatal := true, stat := 0x904, warn := 2, pos := 9 })).map
      (fun t => (t.fatal, t.stat, t.warn, t.pos)) = some (false, 0, 0, 0) := by decide

/-- With no access pending nothing happens (60_exceptions.md R350). -/
theorem test_idle : nextOf (step State.reset) = some State.reset := by decide

/-! ## Witnesses: for each statement with hypotheses, values that meet them together -/

theorem witness_DecodingAnEncodingGivesTheInstruction :
    (Instr.reservedCmd 0xFFFFFFFF).wellFormed = true ∧ (Instr.reservedCmd 0x02).wellFormed = true ∧
      (Instr.getbits 255 true).wellFormed = true ∧ Instr.bc7Reserved.wellFormed = true := by decide

/-- Each code of the table is below 256; codes next to table codes are outside it; the least word with a
high bit. -/
theorem witness_CommandWordFieldsSelectTheInstruction :
    (∀ op ∈ opCodes, op < 256) ∧ (∀ op ∈ [0x02, 0x10, 0x18, 0x23, 0x26, 0xFF],
      op < 256 ∧ op ∉ [0x00, 0x01, 0x08, 0x09, 0x11, 0x12, 0x13, 0x14, 0x15, 0x16, 0x17, 0x24, 0x25]) ∧
      2 ^ 21 ≤ (0x00200000 : Word).toNat := by decide

theorem witness_CommandRowsPartitionTheCommandWords :
    ∃ r ∈ commandRows, (0x001FFF25 : Word) &&& r.2 = r.1 := by decide

theorem witness_DecodeCommandsRunTheLayoutRowOfTheirPrefix :
    layoutOf (.decBc6h true) (loaded [0xFF]).blk[0] = some (.bc6hReserved1F true) ∧
      layoutOf .decBc7 (loaded [0x80]).blk[0] = some .bc7Mode7 := by decide

theorem witness_StepRunsTheCommandTheHostWrites :
    let s := { State.reset with bus := [.write 0x10 0xFFFFFFFF] }
    s.bus = .write 0x10 0xFFFFFFFF :: [] ∧ s.fatal = false := by decide

/-- The lengths at both ends of each clause. -/
theorem witness_FetchWordRunsTheDecodedTableWord :
    State.reset.fatal = false ∧ 16 < 17 ∧ (8 ≤ 8 ∧ 8 ≤ 16) ∧ (9 ≤ 9 ∧ 9 ≤ 16) ∧ 9 ≤ 16 ∧ 16 ≤ 16 := by decide

theorem witness_StepAlwaysAnswersANextState : State.reset.bus = [] := rfl

/-- One offset at each end of each clause's range, and two that no element has. -/
theorem witness_HostReadsFollowTheRegisterMap :
    (∀ off, ({ State.reset with bus := [.read off] } : State).bus = .read off :: []) ∧
      (0x00 = (0 : Fin 16).val ∧ 0x0F = (15 : Fin 16).val) ∧
      0x40 = 0x40 + 4 * (0 : Fin 16).val + Channel.r.number ∧
      0x7F = 0x40 + 4 * (15 : Fin 16).val + Channel.a.number ∧
      0x80 = 0x80 + 8 * (0 : Fin 16).val + 2 * Channel.r.number ∧
      0xFE = 0x80 + 8 * (15 : Fin 16).val + 2 * Channel.a.number ∧
      (∀ r : HostReg, r.offset ≠ 0x11) ∧ ∀ r : HostReg, r.offset ≠ 0x100 := by
  refine ⟨fun _ => rfl, by decide, by decide, by decide, by decide, by decide, ?_, ?_⟩
  · rintro (i | _ | _ | _ | _ | _ | _ | ⟨i, c⟩ | ⟨i, c⟩) <;> simp only [HostReg.offset] <;> omega
  · rintro (i | _ | _ | _ | _ | _ | _ | ⟨i, c⟩ | ⟨i, c⟩) <;> (try cases c) <;>
      simp only [HostReg.offset, Channel.number] <;> omega

theorem witness_HostWritesChangeOnlyTheWritableElement :
    ∀ off ∈ [0x00, 0x0F, 0x14, 0x18, 0x1B, 0x40, 0x7F, 0x80, 0x100],
      ({ State.reset with bus := [.write off 0x1FF] } : State).bus = .write off 0x1FF :: [] ∧ off ≠ 0x10 := by
  decide

theorem witness_ResetLeavesTheControlRegistersZero :
    ({ State.reset with bus := [.reset], fatal := true } : State).bus = .reset :: [] := by decide

/-- Each clause: a command under `FATAL`; an idle step; the step that sets `FATAL`; `n` at both ends. -/
theorem witness_FatalDisablesCommandsUntilReset :
    (let s := { State.reset with bus := [.write 0x10 1], fatal := true }
     s.bus = .write 0x10 1 :: [] ∧ s.fatal = true ∧ s.bus.head? ≠ some .reset ∧ ∃ t, step s = .next t) ∧
    (let s := { State.reset with bus := [.write 0x10 0x00000909] }
     s.fatal = false ∧ ∃ t, step s = .next t ∧ t.fatal = true) ∧
    8 < (9 : Byte).toNat ∧ 8 < (255 : Byte).toNat :=
  ⟨⟨rfl, rfl, by decide, _, rfl⟩, ⟨rfl, _, rfl, by decide⟩, by decide, by decide⟩

theorem witness_NopClearsOnlyStat :
    let s := { State.reset with bus := [.write 0x10 0], fatal := true }
    s.bus = .write 0x10 0 :: [] ∧ s.fatal = true := by decide

theorem witness_ReservedCommandsRaiseBadCmd :
    isReservedWord 0x02 = true ∧ isReservedWord 0x00200000 = true ∧ isReservedWord 0xFFFFFFFF = true ∧
      let s := { State.reset with bus := [.write 0x10 0x02] }
      s.bus = .write 0x10 0x02 :: [] ∧ s.fatal = false := by decide

/-- The last bit that is read and the first that is not, for both limits. -/
theorem witness_GetbitReadsOneBitOrOverruns :
    (127 + 1 ≤ 128 ∧ ({ State.reset with pos := 127 } : State).pos.toNat = 127) ∧
      (128 + 1 > 128 ∧ ({ State.reset with pos := 128 } : State).pos.toNat = 128) ∧
      (63 + 1 ≤ 64 ∧ ({ State.reset with pos := 63 } : State).pos.toNat = 63) ∧
      (64 + 1 > 64 ∧ ({ State.reset with pos := 64 } : State).pos.toNat = 64) := by decide

/-- Each clause: `n` of 9 and 255; 0; a field one bit past the limit; a field that ends at it. -/
theorem witness_GetbitsReadsAFieldOrRaises :
    (8 < (9 : Byte).toNat ∧ 8 < (255 : Byte).toNat) ∧ (0 : Byte).toNat = 0 ∧
      (1 ≤ (8 : Byte).toNat ∧ (8 : Byte).toNat ≤ 8 ∧
        ({ State.reset with pos := 121 } : State).pos.toNat + (8 : Byte).toNat > 128) ∧
      (1 ≤ (8 : Byte).toNat ∧ (8 : Byte).toNat ≤ 8 ∧
        ({ State.reset with pos := 56 } : State).pos.toNat + (8 : Byte).toNat ≤ 64) ∧
      (1 ≤ (1 : Byte).toNat ∧ (1 : Byte).toNat ≤ 8 ∧
        ({ State.reset with pos := 127 } : State).pos.toNat + (1 : Byte).toNat ≤ 128) := by decide

theorem witness_FieldReadsAreSlicesOfTheLittleEndianBlock : 0 + 128 ≤ 128 ∧ 128 + 0 ≤ 128 ∧ 127 + 1 ≤ 128 := by
  decide

theorem witness_FieldWritesChangeExactlyTheFieldsBits :
    (0 + 128 ≤ 128 ∧ 0 ≤ 127 ∧ 127 < 0 + 128) ∧ (127 + 1 ≤ 128 ∧ ¬ (127 ≤ 126)) := by decide

theorem witness_GetBitsComposesFromSingleBitsAndRebuildsTheBlock :
    (1 ≤ 8 ∧ 8 ≤ 8 ∧ 56 + 8 ≤ 64) ∧ (1 ≤ 1 ∧ 1 ≤ 8 ∧ 127 + 1 ≤ 128) ∧
      (∀ n ∈ [3, 5] ++ List.replicate 15 8, n ≤ 8) ∧ ([3, 5] ++ List.replicate 15 8).sum = 128 := by decide

theorem witness_Bc4PaletteIsTheFlooredBlend :
    (255 ≤ 255 ∧ 0 ≤ 255 ∧ 255 > 0) ∧ (0 ≤ 255 ∧ 0 ≤ 0) ∧ (1 ≤ 6 ∧ 6 ≤ 6 ∧ 2 ≤ 6) ∧ (1 ≤ 4 ∧ 4 ≤ 4 ∧ 2 ≤ 4) := by
  decide

theorem witness_InterpolationStaysBetweenItsEndpoints :
    3 < 2 ^ IndexPrec.two.bits ∧ 7 < 2 ^ IndexPrec.three.bits ∧ 15 < 2 ^ IndexPrec.four.bits := by decide

theorem witness_Bc7UnquantiserReplicatesTopBits :
    (1 ≤ 1 ∧ 1 ≤ 8 ∧ 1 < 2 ^ 1) ∧ (1 ≤ 8 ∧ 8 ≤ 8 ∧ 255 < 2 ^ 8) ∧ 4 ≤ 4 ∧ 31 < 32 ∧ 63 < 64 ∧
      15 < 16 := by decide

theorem witness_PartitionTablesAreWellFormed : 31 < 32 ∧ 63 < 64 ∧ 15 < 16 := by decide

theorem witness_Bc6hModeTablesAreWellFormed :
    bc6hInfo1 ∈ bc6hModes ∧ bc6hInfo1.tier = .one ∧ bc6hInfo14 ∈ bc6hModes ∧ bc6hInfo14.tier = .zero ∧
      64 < bc6hInfo14.hdr ∧ headerEntry bc6hInfo14.desc 64 = some (.b 0, 10) := by decide

theorem witness_Bc7ModeTableIsWellFormed :
    bc7Info4 ∈ bc7Modes ∧ bc7Info4.ip2 = some .three ∧ bc7Info0 ∈ bc7Modes ∧ bc7Info0.prec.get .a = 0 := by decide

/-- The two branches, equal colours with and without `f4` among them. -/
theorem witness_Bc1PaletteHasTwoBranches :
    (0xFFFF < 2 ^ 16 ∧ 0x07E0 < 2 ^ 16 ∧ 0 < 2 ^ 16) ∧ (0xF800 > 0x001F ∨ false = true) ∧ (0x1234 > 0x1234 ∨ true = true) ∧
      (0x1234 ≤ 0x1234 ∧ false = false) := by decide

theorem witness_DecBc4WritesOneChannel : Channel.g ≠ Channel.r := by decide

theorem witness_Bc3AndBc5AreComposedOfBc1AndBc4 :
    let s := loaded [1, 2, 3, 4, 5, 6, 7, 8, 9, 10, 11, 12, 13, 14, 15, 16]
    (∀ j : Fin 8, (block [9, 10, 11, 12, 13, 14, 15, 16])[j.val] = s.blk[8 + j.val]) ∧
      ∀ j : Fin 8, (block [1, 2, 3, 4, 5, 6, 7, 8])[j.val] = s.blk[j.val] := by decide

theorem witness_RepeatingACodecCommandChangesNothing :
    isCodec (.bc6hReserved1F true) = true ∧ (∃ t, exec (.bc6hReserved1F true) State.reset = .next t) ∧
      isCodec (.encBc5 128) = true ∧ ∃ t, exec (.encBc5 128) State.reset = .next t :=
  ⟨by decide, ⟨_, rfl⟩, by decide, _, rfl⟩

theorem witness_Bc6hBadModeBlocksGiveTheErrorBlock :
    ((loaded [0x13]).blk[0]).toNat &&& 0x13 = 0x13 ∧ ((loaded [0xFF]).blk[0]).toNat &&& 0x13 = 0x13 ∧
      (Instr.bc6hReserved13 true, 0x13) ∈ bc6hReservedRows true := by decide

theorem witness_ValidBc6hBlocksDecodeToBit128 :
    ((loaded [0x00]).blk[0]).toNat &&& 0x13 ≠ 0x13 ∧ ((loaded [0xEF]).blk[0]).toNat &&& 0x13 ≠ 0x13 ∧
      ((loaded [0x13]).blk[0]).toNat &&& 0x13 = 0x13 ∧ ∃ t, exec (.decBc6h true) (loaded [0x13]) = .next t :=
  ⟨by decide, by decide, by decide, _, rfl⟩

theorem witness_Bc6hFieldsLieWhereTheLayoutSays : bc6hInfo1 ∈ bc6hModes ∧ bc6hInfo14 ∈ bc6hModes ∧ 15 < 16 := by
  decide

/-- The greatest header of mode 14, an untransformed and a transformed two-region mode, and for each clause about the unquantiser a component at a
boundary of it: unsigned of 15, 14 and 1 bits, signed of 16, 15 and 1 bits. -/
theorem witness_Bc6hEndpointsAreLegalUnquantiserInputs :
    bc6hInfo14 ∈ bc6hModes ∧ bc6hInfo14.transformed = true ∧
      (bc6hInfo10 ∈ bc6hModes ∧ bc6hInfo10.transformed = false ∧ bc6hInfo10.tier = .one) ∧
      (bc6hInfo1.transformed = true ∧ bc6hInfo1.tier = .one) ∧
      ((0 : Int) ≤ 32767 ∧ (32767 : Int) < 2 ^ 15 ∧ 15 ≤ 15) ∧
      ((0 : Int) < 16383 ∧ (16383 : Int) < 2 ^ 14 ∧ (16383 : Int) = 2 ^ 14 - 1 ∧
        (16382 : Int) < 2 ^ 14 - 1 ∧ 14 < 15) ∧
      ((1 : Int) < 2 ^ 1 ∧ (1 : Int) = 2 ^ 1 - 1) ∧
      (-2 ^ 15 ≤ (-32768 : Int) ∧ (-32768 : Int) < 2 ^ 15 ∧ 16 ≤ 16) ∧
      ((16383 : Int) < 2 ^ 14 ∧ (2 : Int) ^ 14 - 1 ≤ 16383 ∧ (16382 : Int) < 2 ^ 14 - 1 ∧
        -2 ^ 14 ≤ (-16384 : Int) ∧ (2 : Int) ^ 14 - 1 ≤ -(-16383) ∧ -(-16382) < (2 : Int) ^ 14 - 1) ∧
      (-2 ^ 0 ≤ (-1 : Int) ∧ (2 : Int) ^ 0 - 1 ≤ -(-1)) ∧
      ∀ k < bc6hInfo14.tier.endpoints, ∀ c < 3,
        ([[0xFFFF, 0xFFFF, 0xFFFF], [15, 15, 15], [0, 0, 0], [0, 0, 0]].getD k []).getD c 0 <
          2 ^ (if k = 0 then [bc6hInfo14.pA.r, bc6hInfo14.pA.g, bc6hInfo14.pA.b]
            else [bc6hInfo14.pD.r, bc6hInfo14.pD.g, bc6hInfo14.pD.b]).getD c 0 := by
  refine ⟨by decide, by decide, by decide, by decide, by decide, by decide, by decide, by decide,
    by decide, by decide, ?_⟩
  intro k hk c hc
  have hk' : k < 2 := hk
  interval_cases k <;> interval_cases c <;> decide

theorem witness_Bc6hModeRowsEmitTheirPixels : (Instr.bc6hMode14 true, bc6hInfo14) ∈ bc6hRows true := by decide

/-- A value at each end of the ranges of the final scale and of the half pattern. -/
theorem witness_PixhHoldsOnlyTheStatedPatterns :
    ((0 : Int) ≤ 65535 ∧ (65535 : Int) ≤ 65535) ∧ ((-32768 : Int) ≤ -32768 ∧ (-32768 : Int) < 0) ∧
      ((0 : Int) ≤ 32767 ∧ (32767 : Int) ≤ 32767) ∧ ((0 : Int) ≤ 31743 ∧ (31743 : Int) ≤ 31743) ∧
      ((-31744 : Int) ≤ -31744 ∧ (-31744 : Int) < 0) := by decide

theorem witness_EqualEndpointsGiveOnePixelValue :
    regionOf .bc6h bc6hInfo1.tier 13 8 = regionOf .bc6h bc6hInfo1.tier 13 15 ∧
      let e : Endpoints := ⟨⟨1, 2, 3⟩, ⟨1, 2, 3⟩, ⟨1, 2, 3⟩, ⟨1, 2, 3⟩⟩
      e.e0 = e.e1 ∧ e.e0 = e.e2 ∧ e.e0 = e.e3 ∧ e.get (2 * 1) = e.get (2 * 1 + 1) := by decide

theorem witness_Bc7ReservedBlocksGiveTransparentBlack :
    (Instr.decBc7 = .decBc7 ∧ (loaded [0, 0xFF]).blk[0] = 0) ∧ Instr.bc7Reserved = .bc7Reserved := by decide

theorem witness_ValidBc7BlocksDecodeToBit128 :
    (loaded [0x01]).blk[0] ≠ 0 ∧ (loaded [0xFF]).blk[0] ≠ 0 ∧ bc7Info7 ∈ bc7Modes ∧
      ∃ t, exec .decBc7 (loaded [0]) = .next t :=
  ⟨by decide, by decide, by decide, _, rfl⟩

theorem witness_Bc7FieldsLieWhereTheLayoutTableSays :
    (block [0x80]).memRead 0 (7 + 1) = 2 ^ 7 ∧ (block [0xFF]).memRead 0 (0 + 1) = 2 ^ 0 ∧ 63 < 64 := by decide

theorem witness_Bc7ModeRowsEmitTheirPixels :
    (Instr.bc7Mode0, bc7Info0) ∈ bc7Rows ∧ (Instr.bc7Mode7, bc7Info7) ∈ bc7Rows := by decide

theorem witness_Bc7EndpointsAreBytesAndDefaultAlphaIs255 :
    (bc7Info0 ∈ bc7Modes ∧ (∃ x pos, bc7Header bc7Info0 (block [1]) (bc7Info0.mode + 1) = .ok x pos) ∧
      5 < bc7Info0.tier.endpoints ∧ bc7Info0.prec.a = 0 ∧ bc7Info0.np = bc7Info0.tier.endpoints ∧
      0 < bc7Info0.prec.get .r ∧ bc7Info0.prec.get .r ≠ bc7Info0.precP.get .r) ∧
    bc7Info4 ∈ bc7Modes ∧ (∃ x pos, bc7Header bc7Info4 (block [16]) (bc7Info4.mode + 1) = .ok x pos) ∧
      1 < bc7Info4.tier.endpoints ∧ 0 < bc7Info4.prec.get .a ∧
      bc7Info4.prec.get .a = bc7Info4.precP.get .a :=
  ⟨⟨by decide, ⟨_, _, rfl⟩, by decide, by decide, by decide, by decide, by decide⟩,
    by decide, ⟨_, _, rfl⟩, by decide, by decide, by decide⟩

theorem witness_RotationSwapsAlphaAndIsItsOwnInverse :
    bc7Info6 ∈ bc7Modes ∧ bc7Info6.rb = 0 ∧
      (∃ x pos, bc7Header bc7Info6 (block [0x40]) (bc7Info6.mode + 1) = .ok x pos) ∧ 3 < 4 :=
  ⟨by decide, by decide, ⟨_, _, rfl⟩, by decide⟩

theorem witness_Mode4SelectorSendsPlaneTwoToColour :
    let x : Bc7Fields := ⟨0, 1, 1, [0, 31], [0, 31], [0, 31], [0, 63], []⟩
    x.rot = 1 ∧ x.isel = 1 := by decide

/-- Samples all near the ends, and samples at the two ends of 8..247. -/
theorem witness_SearchWindowsAreTheStatedRanges :
    (∀ x ∈ [7, 248], x ≤ 255) ∧ [7, 248] ≠ [] ∧ ([7, 248].filter fun x => 8 ≤ x ∧ x ≤ 247) = [] ∧
      (∀ x ∈ [8, 247], x ≤ 255) ∧ ([8, 247].filter fun x => 8 ≤ x ∧ x ≤ 247) ≠ [] := by decide

/-- A sample list whose best pair is the first of the tight window, and one whose best pair is in the
flipped window only. -/
theorem witness_SearchKeepsTheFirstLeastScore :
    (let v := List.replicate 16 0
     (∀ x ∈ v, x ≤ 255) ∧ nearEnds v = true ∧ (0, 1) ∈ flippedWindow v ∧
      tightWindow v = [] ++ ((bestPair v).a0, (bestPair v).a1) :: (tightWindow v).tail) ∧
    let v := [0, 255, 128]
    (∀ x ∈ v, x ≤ 255) ∧ ((bestPair v).a0, (bestPair v).a1) ∉ tightWindow v ∧
      flippedWindow v = (flippedWindow v).take 4 ++ ((bestPair v).a0, (bestPair v).a1) :: (flippedWindow v).drop 5 :=
  ⟨⟨by decide, by decide, by decide, by decide⟩, by decide, by decide, by decide⟩

theorem witness_EncodedIndicesAreTheFirstNearestEntries :
    pal8 0 0 ≠ [] ∧ 7 < (pal8 0 0).length ∧ 0 < nearestIndex (pal8 0 0) 255 ∧ 15 < (List.replicate 16 0).length := by
  decide

theorem witness_ErrorActionEffects :
    255 < 256 ∧ Cause.overrun ≠ .contract ∧ ErrorOutput.bc7 ≠ .bc6h ∧ ErrorOutput.cursor ≠ .bc7 := by decide

theorem witness_CommandsWriteOnlyTheRegistersOfTheTable :
    (∃ t, exec (.getbits 9 false) State.reset = .next t ∧ t.fatal ≠ State.reset.fatal) ∧
      (∃ t, exec (.decBc1 true) State.reset = .next t) ∧ mayWriteBlk (.decBc1 true) = false ∧
      mayWritePix8 (.bc6hMode1 true) = false ∧ mayWritePixh (.bc7Mode0) = false ∧
      mayWriteVal (.decBc1 true) = false ∧ keepsPos .clrw = true ∧ raisesNothing (.decBc1 true) = true ∧
      Instr.decBc1 true ≠ .clrw :=
  ⟨⟨_, rfl, by decide⟩, ⟨_, rfl⟩, by decide, by decide, by decide, by decide, by decide, by decide, by decide⟩

theorem witness_WarnBitsStayUntilClrwOrReset :
    let s := { State.reset with bus := [.write 0x10 0x00000002], warn := 1 }
    (∃ t, step s = .next t) ∧ s.bus.head? ≠ some .reset ∧ decodeWord 0x00000002 ≠ .clrw ∧
      s.warn.getLsbD 0 = true :=
  ⟨⟨_, rfl⟩, by decide, by decide, by decide⟩

/-- A state in error that satisfies the invariant, about to take a step. -/
theorem witness_EveryStepKeepsTheStatusInvariant :
    let s := { State.reset with bus := [.write 0x10 0x00000001], stat := 0x00001301, warn := 1 }
    StatusInv s ∧ ∃ t, step s = .next t :=
  ⟨by unfold StatusInv; decide, _, rfl⟩

/-- Two states that differ in a byte never written, which the command does not read. -/
theorem witness_NeverWrittenElementsAreNotObservedByReadyCommands :
    let w := { Written.none with blk := Vector.ofFn fun j : Fin 16 => decide (j.val < 8) }
    let s := { State.reset with written := w }
    let t := { State.reset with written := w, blk := block [0, 0, 0, 0, 0, 0, 0, 0, 0xFF] }
    s ≠ t ∧ AgreeWhereWritten s t ∧ ready (.decBc1 false) s = true :=
  ⟨by decide, ⟨rfl, by decide, fun _ _ _ => rfl, fun _ => rfl, fun _ => rfl, rfl, rfl, rfl, rfl, rfl, rfl, rfl⟩,
    by decide⟩

end Sys2Proof.Tests
end

/-! SUPPORT. What one step can do (10_state.md R20, R31, R32; 30_encoding.md R82) and how a command
ends (60_exceptions.md R346); from these, what a step does to `FATAL`. -/

namespace Sys2Proof.Machine

/-! ### One step, by the access it serves -/

theorem hostReg_eq_cmd_iff (off : Nat) : hostReg off = some .cmd ↔ off = 0x10 := by
  constructor
  · intro h
    unfold hostReg at h
    split_ifs at h <;> simp_all
  · rintro rfl
    rfl

theorem step_idle {s : State} (hbus : s.bus = []) : step s = .next s := by
  simp [step, s.serve_nil hbus]

theorem step_read {s : State} {off : Nat} {rest : List HostAccess}
    (hbus : s.bus = .read off :: rest) :
    step s = .next { s with bus := rest, rdata := s.hostRead off } := by
  rw [step, s.serve_cons hbus]
  rfl

theorem step_write {s : State} {off : Nat} {v : Word} {rest : List HostAccess}
    (hbus : s.bus = .write off v :: rest) (hoff : off ≠ 0x10) :
    step s = .next ({ s with bus := rest }.hostWrite off v) := by
  simp [step, s.serve_cons hbus, State.serveAccess, hostReg_eq_cmd_iff, hoff]

theorem step_command_of_fatal {s : State} {w : Word} {rest : List HostAccess}
    (hbus : s.bus = .write 0x10 w :: rest) (hf : s.fatal = true) :
    step s = .next { s with bus := rest, cmd := w } := by
  simp [step, s.serve_cons hbus, State.serveAccess, hostReg_eq_cmd_iff, State.acceptCommand, hf]

theorem step_command_of_not_fatal {s : State} {w : Word} {rest : List HostAccess}
    (hbus : s.bus = .write 0x10 w :: rest) (hf : s.fatal = false) :
    step s = exec (decodeWord w) { s with bus := rest, cmd := w } := by
  simp [step, s.serve_cons hbus, State.serveAccess, hostReg_eq_cmd_iff, State.acceptCommand, hf]

theorem step_reset {s : State} {rest : List HostAccess} (hbus : s.bus = .reset :: rest) :
    step s = .next ({ s with bus := rest }.resetEvent) := by
  rw [step, s.serve_cons hbus]
  rfl

/-- Everything a step from `s` to `t` can be, by the oldest host access. -/
inductive StepsTo (s t : State) : Prop
  | idle (hbus : s.bus = []) (ht : t = s)
  | read (off : Nat) (rest : List HostAccess) (hbus : s.bus = .read off :: rest)
      (ht : t = { s with bus := rest, rdata := s.hostRead off })
  | write (off : Nat) (v : Word) (rest : List HostAccess) (hbus : s.bus = .write off v :: rest)
      (hoff : off ≠ 0x10) (ht : t = { s with bus := rest }.hostWrite off v)
  | ignored (w : Word) (rest : List HostAccess) (hbus : s.bus = .write 0x10 w :: rest)
      (hf : s.fatal = true) (ht : t = { s with bus := rest, cmd := w })
  | command (w : Word) (rest : List HostAccess) (hbus : s.bus = .write 0x10 w :: rest)
      (hf : s.fatal = false)
      (hexec : exec (decodeWord w) { s with bus := rest, cmd := w } = .next t)
  | reset (rest : List HostAccess) (hbus : s.bus = .reset :: rest)
      (ht : t = { s with bus := rest }.resetEvent)

/-- The inversion of `step`: later proofs about a step start from its cases. -/
theorem stepsTo_of_step {s t : State} (h : step s = .next t) : StepsTo s t := by
  rcases hbus : s.bus with _ | ⟨x, rest⟩
  · rw [step_idle hbus] at h
    cases h
    exact .idle hbus rfl
  cases x with
  | read off =>
    rw [step_read hbus] at h
    cases h
    exact .read off rest hbus rfl
  | write off v =>
    by_cases hoff : off = 0x10
    · subst hoff
      cases hf : s.fatal with
      | true =>
        rw [step_command_of_fatal hbus hf] at h
        cases h
        exact .ignored v rest hbus hf rfl
      | false => exact .command v rest hbus hf (step_command_of_not_fatal hbus hf ▸ h)
    · rw [step_write hbus hoff] at h
      cases h
      exact .write off v rest hbus hoff rfl
  | reset =>
    rw [step_reset hbus] at h
    cases h
    exact .reset rest hbus rfl

/-! ### How a command ends -/

@[simp] theorem State.encodeHalf_warn (s : State) (o : Nat) (bias : Byte) (c : Channel) :
    (s.encodeHalf o bias c).warn = s.warn := by simp [State.encodeHalf]

@[simp] theorem State.encodeHalf_fatal (s : State) (o : Nat) (bias : Byte) (c : Channel) :
    (s.encodeHalf o bias c).fatal = s.fatal := by simp [State.encodeHalf]

/-- A command other than `CLRW` ends without an error, with `STAT` 0 and `WARN`, `FATAL` kept, or in
the error action (R82 step 4, R346). -/
def EndsOrRaises (s t : State) : Prop :=
  (t.stat = 0 ∧ t.warn = s.warn ∧ t.fatal = s.fatal) ∨
    ∃ o c info pos, t = s.errorAction o c info pos

theorem endsOrRaises_errorAction (s : State) (o : ErrorOutput) (c : Cause) (info pos : Nat) :
    EndsOrRaises s (s.errorAction o c info pos) := .inr ⟨o, c, info, pos, rfl⟩

/-- Register writes that keep `WARN` and `FATAL`, the cursor and `STAT <- 0` end without an error. -/
theorem endsOrRaises_complete {s t : State} {pos : Nat} (hwarn : t.warn = s.warn)
    (hfatal : t.fatal = s.fatal) : EndsOrRaises s (t.setPos pos).complete :=
  .inl ⟨rfl, hwarn, hfatal⟩

/-- A walk command ends so when its register write keeps `WARN` and `FATAL`. -/
theorem endsOrRaises_finish {α : Type} (s : State) (o : ErrorOutput) (w : Walk α)
    {write : State → α → State} (hwarn : ∀ v, (write s v).warn = s.warn)
    (hfatal : ∀ v, (write s v).fatal = s.fatal) : EndsOrRaises s (s.finish o w write) := by
  obtain ⟨v, pos, -, hw⟩ | ⟨c, info, pos, -, hw⟩ := s.finish_cases o w write
  · exact hw ▸ endsOrRaises_complete (hwarn v) (hfatal v)
  · exact hw ▸ endsOrRaises_errorAction s o c info pos

theorem endsOrRaises_bc6hDecode (info : Bc6hMode) (sgn : Bool) (s : State) :
    EndsOrRaises s (bc6hDecode info sgn s) :=
  endsOrRaises_finish s _ _ (by simp [bc6hEmit]) (by simp [bc6hEmit])

theorem endsOrRaises_bc7Decode (info : Bc7Mode) (s : State) : EndsOrRaises s (bc7Decode info s) :=
  endsOrRaises_finish s _ _ (by simp [bc7Emit]) (by simp [bc7Emit])

/-- After the mode read `DEC_BC6H` is the decode by a table row or the error of a bad mode. -/
theorem bc6hRun_cases (m : Nat) (sgn : Bool) (s : State) :
    (∃ info, bc6hRun m sgn s = .next (bc6hDecode info sgn s)) ∨
      ∃ m', bc6hRun m sgn s = .next (bc6hBadMode m' s) := by
  unfold bc6hRun
  split
  -- the four reserved codes and the catch-all
  case h_15 | h_16 | h_17 | h_18 | h_19 => exact .inr ⟨_, rfl⟩
  all_goals exact .inl ⟨_, rfl⟩

/-- After the mode read `DEC_BC7` is the decode by a table row or the reserved-mode error. -/
theorem bc7Run_cases (mode : Nat) (s : State) :
    (∃ info, bc7Run mode s = .next (bc7Decode info s)) ∨
      bc7Run mode s = .next (s.errorAction .bc7 .badMode 8 8) := by
  unfold bc7Run
  split
  case h_9 => exact .inr rfl
  all_goals exact .inl ⟨_, rfl⟩

theorem execDecBc6h_endsOrRaises (sgn : Bool) (s : State) :
    ∃ t, execDecBc6h sgn s = .next t ∧ EndsOrRaises s t := by
  unfold execDecBc6h
  cases bc6hModeRead s.blk with
  | ok m _ =>
    obtain ⟨info, h⟩ | ⟨m', h⟩ := bc6hRun_cases m sgn s
    · exact ⟨_, h, endsOrRaises_bc6hDecode info sgn s⟩
    · exact ⟨_, h, endsOrRaises_errorAction ..⟩
  | raise c info pos => exact ⟨_, rfl, endsOrRaises_errorAction ..⟩

theorem execDecBc7_endsOrRaises (s : State) :
    ∃ t, execDecBc7 s = .next t ∧ EndsOrRaises s t := by
  unfold execDecBc7
  cases bc7ModeRead s.blk with
  | ok mode _ =>
    obtain ⟨info, h⟩ | h := bc7Run_cases mode s
    · exact ⟨_, h, endsOrRaises_bc7Decode info s⟩
    · exact ⟨_, h, endsOrRaises_errorAction ..⟩
  | raise c info pos => exact ⟨_, rfl, endsOrRaises_errorAction ..⟩

/-- Every command but `CLRW` completes, without an error or in the error action. -/
theorem exec_endsOrRaises (i : Instr) (s : State) (hi : i ≠ .clrw) :
    Completes i s (EndsOrRaises s) := by
  cases i
  case clrw => exact absurd rfl hi
  case getbit w64 | getbits n w64 =>
    exact ⟨_, rfl, endsOrRaises_finish s _ _ (by simp) (by simp)⟩
  case decBc6h sgn => exact execDecBc6h_endsOrRaises sgn s
  case decBc7 => exact execDecBc7_endsOrRaises s
  case reservedCmd | bc6hReserved13 | bc6hReserved17 | bc6hReserved1B | bc6hReserved1F
      | bc7Reserved =>
    exact ⟨_, rfl, endsOrRaises_errorAction ..⟩
  case nop => exact ⟨_, rfl, .inl ⟨rfl, rfl, rfl⟩⟩
  case decBc1 | decBc2 | decBc3 | decBc4 | decBc5 | encBc4 | encBc5 =>
    exact ⟨_, rfl, endsOrRaises_complete (by simp) (by simp)⟩
  case bc7Mode0 | bc7Mode1 | bc7Mode2 | bc7Mode3 | bc7Mode4 | bc7Mode5 | bc7Mode6 | bc7Mode7 =>
    exact ⟨_, rfl, endsOrRaises_bc7Decode _ s⟩
  -- the fourteen BC6H modes
  all_goals exact ⟨_, rfl, endsOrRaises_bc6hDecode _ _ s⟩

/-! ### `FATAL` -/

@[simp] theorem State.hostWrite_fatal (s : State) (off : Nat) (v : Word) :
    (s.hostWrite off v).fatal = s.fatal := by
  unfold State.hostWrite
  split <;> rfl

@[simp] theorem State.errorAction_statCause (s : State) (o : ErrorOutput) (c : Cause)
    (info pos : Nat) : (s.errorAction o c info pos).statCause = c.code := by
  rw [State.statCause, State.errorAction_stat, statWord_cause]

/-- The error action keeps `FATAL`, or its cause is `CONTRACT` and `FATAL` is set (R31). -/
theorem State.errorAction_keeps_or_sets_fatal (s : State) (o : ErrorOutput) (c : Cause)
    (info pos : Nat) :
    (s.errorAction o c info pos).fatal = s.fatal ∨
      (s.errorAction o c info pos).fatal = true ∧
        (s.errorAction o c info pos).statCause = Cause.contract.code := by
  by_cases hc : c = .contract
  · exact .inr (by simp [hc])
  · exact .inl (by simp [hc])

theorem exec_keeps_or_sets_fatal {i : Instr} {s t : State} (h : exec i s = .next t) :
    t.fatal = s.fatal ∨ t.fatal = true ∧ t.statCause = Cause.contract.code := by
  by_cases hi : i = .clrw
  · subst hi
    cases h
    exact .inl rfl
  obtain ⟨u, hu, hends⟩ := exec_endsOrRaises i s hi
  obtain rfl : u = t := Host.Outcome.next.inj (hu.symm.trans h)
  obtain ⟨-, -, hf⟩ | ⟨o, c, info, pos, rfl⟩ := hends
  · exact .inl hf
  · exact s.errorAction_keeps_or_sets_fatal o c info pos

/-- A step other than a reset keeps `FATAL`, or sets it and leaves `CONTRACT` in `STAT.cause`. -/
theorem step_keeps_or_sets_fatal {s t : State} (h : step s = .next t)
    (hreset : s.bus.head? ≠ some .reset) :
    t.fatal = s.fatal ∨ t.fatal = true ∧ t.statCause = Cause.contract.code := by
  cases stepsTo_of_step h with
  | idle _ ht | read _ _ _ ht | ignored _ _ _ _ ht => exact .inl (ht ▸ rfl)
  | write off v rest _ _ ht => exact .inl (by simp [ht])
  | command w rest _ _ hexec => exact (exec_keeps_or_sets_fatal hexec :)
  | reset rest hbus _ => exact absurd (by simp [hbus]) hreset

theorem step_reset_clears_fatal {s t : State} (h : step s = .next t)
    (hreset : s.bus.head? = some .reset) : t.fatal = false := by
  obtain ⟨rest, hbus⟩ := List.head?_eq_some_iff.mp hreset
  rw [step_reset hbus] at h
  cases h
  rfl

/-- A step sets `FATAL` only by a `CONTRACT` error (R31). -/
theorem statCause_of_step_sets_fatal {s t : State} (h : step s = .next t) (hs : s.fatal = false)
    (ht : t.fatal = true) : t.statCause = Cause.contract.code := by
  have hreset : s.bus.head? ≠ some .reset := fun hr => by
    simp [step_reset_clears_fatal h hr] at ht
  obtain hkeep | ⟨-, hcause⟩ := step_keeps_or_sets_fatal h hreset
  · simp [hkeep, hs] at ht
  · exact hcause

/-- `GETBITS` of more than 8 bits raises `CONTRACT` (R121, R125). -/
theorem exec_getbits_contract (s : State) {n : Byte} (w64 : Bool) (hn : 8 < n.toNat) :
    exec (.getbits n w64) s =
      .next (s.errorAction .cursor .contract n.toNat s.pos.toNat) := by
  simp [exec, execGetbits, getBits_contract _ _ _ hn]

theorem State.hostRead_fatal (s : State) : s.hostRead 0x1B = if s.fatal then 1 else 0 := by
  have hread : s.hostRead 0x1B = (BitVec.ofBool s.fatal).setWidth 32 := rfl
  rw [hread]
  cases s.fatal <;> rfl

/-- Settles O12: from the cases of a step and the two ways a command can end. -/
theorem fatalDisablesCommandsUntilReset : Obligations.FatalDisablesCommandsUntilReset := by
  unfold Obligations.FatalDisablesCommandsUntilReset
  refine ⟨?ignored, ?sticky, ?cause, ?getbits, State.hostRead_fatal, ?readOnly⟩
  case ignored => exact fun s w rest hbus hf => step_command_of_fatal hbus hf
  case sticky =>
    intro s t h hf hreset
    obtain hkeep | ⟨hset, -⟩ := step_keeps_or_sets_fatal h hreset
    · exact hkeep.trans hf
    · exact hset
  case cause => exact fun s t h hs ht => statCause_of_step_sets_fatal h hs ht
  case getbits => exact fun s n w64 hn => ⟨_, exec_getbits_contract s w64 hn, by simp⟩
  case readOnly => exact fun s v => rfl

end Sys2Proof.Machine

/-! SUPPORT. The fields of a command word (30_encoding.md R80) read back what the word was put
together from, and the decoder on them (R81, R83). -/

namespace Sys2Proof

/-! ### The fields as numbers -/

theorem opField_eq (w : Word) : opField w = w.toNat % 2 ^ 8 := by
  simp [opField, BitVec.extractLsb'_toNat]

theorem argField_toNat (w : Word) : (argField w).toNat = w.toNat / 2 ^ 8 % 2 ^ 8 := by
  simp [argField, BitVec.extractLsb'_toNat, Nat.shiftRight_eq_div_pow]

theorem chanField_eq (w : Word) : chanField w = .ofNumber (w.toNat / 2 ^ 16 % 2 ^ 2) := by
  simp [chanField, BitVec.extractLsb'_toNat, Nat.shiftRight_eq_div_pow]

/-- A one-bit field, from its value as a number. -/
theorem getLsbD_eq_of_div_mod {w : Word} {k : Nat} {b : Bool} (h : w.toNat / 2 ^ k % 2 = b.toNat) :
    w.getLsbD k = b := by
  rw [BitVec.getLsbD, Nat.testBit_eq_decide_div_mod_eq]
  simp [h]

/-- Bits 31:21 are zero exactly in the words below `2 ^ 21`. -/
theorem highBits_eq_zero_iff (w : Word) : w.extractLsb' 21 11 = 0 ↔ w.toNat < 2 ^ 21 := by
  have hlt := w.isLt
  rw [← BitVec.toNat_inj, BitVec.extractLsb'_toNat, Nat.shiftRight_eq_div_pow,
    show (0 : BitVec 11).toNat = 0 from rfl]
  omega

/-! ### Channel numbers -/

theorem Channel.number_lt (c : Channel) : c.number < 4 := by cases c <;> decide

@[simp] theorem Channel.ofNumber_number (c : Channel) : Channel.ofNumber c.number = c := by
  cases c <;> rfl

/-! ### The fields of `commandWord` -/

section
variable {op : Nat} (arg : Byte) (c : Channel) (f4 sgn w64 : Bool) (hop : op < 256)
include hop

theorem commandWord_toNat :
    (commandWord op arg c f4 sgn w64).toNat = op + arg.toNat * 2 ^ 8 + c.number * 2 ^ 16 +
      f4.toNat * 2 ^ 18 + sgn.toNat * 2 ^ 19 + w64.toNat * 2 ^ 20 := by
  have harg := arg.isLt
  have hc := c.number_lt
  have hf4 := f4.toNat_lt
  have hsgn := sgn.toNat_lt
  have hw64 := w64.toNat_lt
  rw [commandWord, BitVec.toNat_ofNat, Nat.mod_eq_of_lt]
  omega

theorem commandWord_fields :
    (commandWord op arg c f4 sgn w64).extractLsb' 21 11 = 0 ∧
    opField (commandWord op arg c f4 sgn w64) = op ∧
    argField (commandWord op arg c f4 sgn w64) = arg ∧
    chanField (commandWord op arg c f4 sgn w64) = c ∧
    f4Field (commandWord op arg c f4 sgn w64) = f4 ∧
    sgnField (commandWord op arg c f4 sgn w64) = sgn ∧
    w64Field (commandWord op arg c f4 sgn w64) = w64 := by
  have hw := commandWord_toNat arg c f4 sgn w64 hop
  have harg := arg.isLt
  have hc := c.number_lt
  have hf4 := f4.toNat_lt
  have hsgn := sgn.toNat_lt
  have hw64 := w64.toNat_lt
  refine ⟨?high, ?op, ?arg, ?chan, ?f4, ?sgn, ?w64⟩
  case high => rw [highBits_eq_zero_iff]; omega
  case op => rw [opField_eq]; omega
  case arg => apply BitVec.eq_of_toNat_eq; rw [argField_toNat]; omega
  case chan =>
    have hnum : (commandWord op arg c f4 sgn w64).toNat / 2 ^ 16 % 2 ^ 2 = c.number := by omega
    rw [chanField_eq, hnum, Channel.ofNumber_number]
  case f4 | sgn | w64 => exact getLsbD_eq_of_div_mod (by omega)

end

/-! ### The decoder -/

/-- A word with a nonzero bit in 31:21 is reserved (R83). -/
theorem decodeWord_of_highBits {w : Word} (hw : 2 ^ 21 ≤ w.toNat) : decodeWord w = .reservedCmd w := by
  rw [decodeWord, if_pos]
  rw [ne_eq, highBits_eq_zero_iff]
  omega

/-- A word whose code is outside the table is reserved (R83). -/
theorem decodeWord_of_opField_not_mem {w : Word} (hop : opField w ∉ opCodes) :
    decodeWord w = .reservedCmd w := by
  unfold decodeWord
  split
  · rfl
  split
  case h_14 => rfl
  all_goals simp_all [opCodes]

/-- Settles O3: the fields of the word are the ones it was put together from, and the decoder looks at
nothing else. -/
theorem commandWordFieldsSelectTheInstruction :
    Obligations.CommandWordFieldsSelectTheInstruction := by
  unfold Obligations.CommandWordFieldsSelectTheInstruction
  refine ⟨?_, fun w => decodeWord_of_highBits⟩
  intro op arg c f4 sgn w64 hop w
  have hw : w = commandWord op arg c f4 sgn w64 := by simp only [w, commandWord, Nat.mul_comm]
  obtain ⟨hhigh, hopField, harg, hchan, hf4, hsgn, hw64⟩ :=
    hw ▸ commandWord_fields arg c f4 sgn w64 hop
  clear_value w
  refine ⟨?_, ?_, ?_, ?_, ?_, ?_, ?_, ?_, ?_, ?_, ?_, ?_, ?_,
    fun hout => decodeWord_of_opField_not_mem (hopField ▸ hout)⟩
  -- the thirteen rows of the table
  all_goals
    intro hrow
    simp [decodeWord, hhigh, hopField, hrow, harg, hchan, hf4, hsgn, hw64]

end Sys2Proof

/-! SUPPORT. The bit-cursor commands on the whole state (40_bitcursor.md R124): what an overrun
leaves, and `GETBIT`. -/

namespace Sys2Proof.Machine

/-- The `STAT` word of an `info` that fits its byte (R29). -/
theorem statWord_of_lt (c : Cause) {info : Nat} (h : info < 256) :
    statWord c info = BitVec.ofNat 32 (info * 256 + c.code) := by
  rw [statWord, Nat.mod_eq_of_lt h]

theorem warnWith_overrun (w : Byte) : warnWith w .overrun = w ||| 2 := rfl

/-- An overrun at the cursor's own position (R124, R125): `VAL <- 0`, `STAT`, `WARN[1]`; `POS` stays. -/
theorem State.errorAction_cursor_overrun (s : State) :
    s.errorAction .cursor .overrun s.pos.toNat s.pos.toNat =
      { s with
        val := 0
        stat := BitVec.ofNat 32 (s.pos.toNat * 256 + 2)
        warn := s.warn ||| 2
        written := { s.written with val := true } } := by
  have hstat : statWord .overrun s.pos.toNat = BitVec.ofNat 32 (s.pos.toNat * 256 + 2) :=
    statWord_of_lt .overrun s.pos.isLt
  simp [State.errorAction, hstat, warnWith_overrun, State.setVal]

/-- `GETBIT` with a bit left below the limit (R120, R124). -/
theorem exec_getbit_of_fits {w64 : Bool} {s : State} (h : s.pos.toNat + 1 ≤ cursorLimit w64) :
    exec (.getbit w64) s =
      .next (((s.setVal (s.blk.bit s.pos.toNat)).setPos (s.pos.toNat + 1)).complete) := by
  rw [exec, execGetbit, getBit_ok _ h, State.finish_ok]

/-- `GETBIT` at or above the limit (R120, R124). -/
theorem exec_getbit_of_overruns {w64 : Bool} {s : State} (h : s.pos.toNat + 1 > cursorLimit w64) :
    exec (.getbit w64) s =
      .next (s.errorAction .cursor .overrun s.pos.toNat s.pos.toNat) := by
  rw [exec, execGetbit, getBit_overrun _ h, State.finish_raise]

/-- Settles O16: the two outcomes of `getBit`, by whether the next bit lies below the limit. -/
theorem getbitReadsOneBitOrOverruns : Obligations.GetbitReadsOneBitOrOverruns := by
  unfold Obligations.GetbitReadsOneBitOrOverruns
  intro w64 s
  refine ⟨?fits, ?overruns⟩
  case fits => exact fun h => exec_getbit_of_fits h
  case overruns => exact fun h => by rw [exec_getbit_of_overruns h, State.errorAction_cursor_overrun]

end Sys2Proof.Machine

/-! SUPPORT. The BC1 colours and palette (41_palette_math.md R150, R151): bit replication as shifts,
the two branches of the palette, and the bound on its channels. -/

namespace Sys2Proof.Machine

/-! ### Bit replication -/

theorem exp5_eq_shift (x : Nat) : exp5 x = x <<< 3 ||| x >>> 2 := by
  rw [exp5, Nat.shiftLeft_eq, Nat.shiftRight_eq_div_pow]

theorem exp6_eq_shift (x : Nat) : exp6 x = x <<< 2 ||| x >>> 4 := by
  rw [exp6, Nat.shiftLeft_eq, Nat.shiftRight_eq_div_pow]

theorem exp5_lt {x : Nat} (hx : x < 32) : exp5 x < 256 :=
  Nat.or_lt_two_pow (n := 8) (by omega) (by omega)

theorem exp6_lt {x : Nat} (hx : x < 64) : exp6 x < 256 :=
  Nat.or_lt_two_pow (n := 8) (by omega) (by omega)

/-- The bit fields of R85 as shifts; the top field of a 16-bit colour needs no mask. -/
theorem expand565_eq_shift {c : Nat} (hc : c < 2 ^ 16) :
    expand565 c =
      ⟨exp5 (c >>> 11), exp6 ((c >>> 5) % 2 ^ 6), exp5 (c % 2 ^ 5), 255⟩ := by
  have hred : c / 2 ^ 11 % 32 = c / 2 ^ 11 := Nat.mod_eq_of_lt (by omega)
  rw [expand565, hred]
  simp only [Nat.shiftRight_eq_div_pow, Nat.reducePow]

@[simp] theorem expand565_a (c : Nat) : (expand565 c).a = 255 := rfl

theorem expand565_get_lt (c : Nat) (ch : Channel) : (expand565 c).get ch < 256 := by
  cases ch with
  | r => exact exp5_lt (Nat.mod_lt _ (by decide))
  | g => exact exp6_lt (Nat.mod_lt _ (by decide))
  | b => exact exp5_lt (Nat.mod_lt _ (by decide))
  | a => exact Nat.lt_succ_self 255

/-! ### The blends -/

theorem third_lt {x y : Nat} (hx : x < 256) (hy : y < 256) : third x y < 256 := by
  rw [third]
  omega

theorem half_lt {x y : Nat} (hx : x < 256) (hy : y < 256) : half x y < 256 := by
  rw [half]
  omega

/-- The opaque pixel whose colour channels are those of `x` and `y` blended by `f`. -/
def opaqueBlend (f : Nat → Nat → Nat) (x y : Pixel Nat) : Pixel Nat :=
  ⟨f x.r y.r, f x.g y.g, f x.b y.b, 255⟩

@[simp] theorem opaqueBlend_a (f : Nat → Nat → Nat) (x y : Pixel Nat) :
    (opaqueBlend f x y).a = 255 := rfl

theorem opaqueBlend_get (f : Nat → Nat → Nat) (x y : Pixel Nat) {c : Channel}
    (hc : c ∈ [Channel.r, .g, .b]) : (opaqueBlend f x y).get c = f (x.get c) (y.get c) := by
  cases c with
  | r | g | b => rfl
  | a => simp at hc

/-- A blend that keeps bytes bytes gives a pixel of bytes. -/
theorem opaqueBlend_get_lt {f : Nat → Nat → Nat} {x y : Pixel Nat}
    (hf : ∀ {m n : Nat}, m < 256 → n < 256 → f m n < 256)
    (hx : ∀ c, x.get c < 256) (hy : ∀ c, y.get c < 256) (c : Channel) :
    (opaqueBlend f x y).get c < 256 := by
  cases c with
  | r => exact hf (hx .r) (hy .r)
  | g => exact hf (hx .g) (hy .g)
  | b => exact hf (hx .b) (hy .b)
  | a => exact Nat.lt_succ_self 255

/-! ### The two branches of the palette -/

section
variable {c0 c1 : Nat} {f4 : Bool}

theorem palBc1_of_fourColours (h : c0 > c1 ∨ f4 = true) :
    palBc1 c0 c1 f4 = [expand565 c0, expand565 c1,
      opaqueBlend third (expand565 c0) (expand565 c1),
      opaqueBlend third (expand565 c1) (expand565 c0)] := if_pos h

theorem palBc1_of_threeColours (h : ¬(c0 > c1 ∨ f4 = true)) :
    palBc1 c0 c1 f4 = [expand565 c0, expand565 c1,
      opaqueBlend half (expand565 c0) (expand565 c1), ⟨0, 0, 0, 0⟩] := if_neg h

end

theorem palBc1_get_lt {c0 c1 : Nat} {f4 : Bool} {p : Pixel Nat} (hp : p ∈ palBc1 c0 c1 f4)
    (c : Channel) : p.get c < 256 := by
  have h0 := expand565_get_lt c0
  have h1 := expand565_get_lt c1
  by_cases h : c0 > c1 ∨ f4 = true
  · simp only [palBc1_of_fourColours h, List.mem_cons, List.not_mem_nil, or_false] at hp
    obtain rfl | rfl | rfl | rfl := hp
    · exact h0 c
    · exact h1 c
    · exact opaqueBlend_get_lt third_lt h0 h1 c
    · exact opaqueBlend_get_lt third_lt h1 h0 c
  · simp only [palBc1_of_threeColours h, List.mem_cons, List.not_mem_nil, or_false] at hp
    obtain rfl | rfl | rfl | rfl := hp
    · exact h0 c
    · exact h1 c
    · exact opaqueBlend_get_lt half_lt h0 h1 c
    · cases c <;> exact Nat.zero_lt_succ 255

/-- Settles O28: the colours are bit replication written as shifts, and the palette is the list of its
branch, whose hypothesis rules out the other one. -/
theorem bc1PaletteHasTwoBranches : Obligations.Bc1PaletteHasTwoBranches := by
  unfold Obligations.Bc1PaletteHasTwoBranches
  refine ⟨?colour, by decide, by decide, by decide, by decide, ?palette⟩
  case colour =>
    intro c hc
    simp only [expand565_eq_shift hc, exp5_eq_shift, exp6_eq_shift]
  case palette =>
    intro c0 c1 f4 _ _
    refine ⟨fun p hp c => palBc1_get_lt hp c, ?_⟩
    by_cases h : c0 > c1 ∨ f4 = true
    · refine ⟨_, _, palBc1_of_fourColours h, expand565_a c0, expand565_a c1, opaqueBlend_a ..,
        fun _ => ⟨opaqueBlend_a .., ?_⟩, ?_⟩
      · intro c hc
        rw [opaqueBlend_get _ _ _ hc, opaqueBlend_get _ _ _ hc, third, third,
          Nat.add_comm (2 * (expand565 c1).get c)]
        exact ⟨rfl, rfl⟩
      · rintro ⟨hle, rfl⟩
        exact absurd (h.resolve_right Bool.false_ne_true) (Nat.not_lt.mpr hle)
    · exact ⟨_, _, palBc1_of_threeColours h, expand565_a c0, expand565_a c1, opaqueBlend_a ..,
        fun h4 => absurd h4 h, fun _ => ⟨rfl, fun c hc => opaqueBlend_get half _ _ hc⟩⟩

end Sys2Proof.Machine

/-! SUPPORT. `DEC_BC1` to `DEC_BC5` (43_bc1_bc5_decode.md R190 to R202): block fields as bytes, what one
half of a block decodes to, and how a decode to `PIX8` ends. -/

namespace Sys2Proof.Machine

/-! ### Fields at a byte boundary (20_memory.md R51, R52) -/

/-- Up to eight bits from the start of a byte are its low bits. -/
theorem Block.memRead_byte_low (b : Block) (j : Nat) {n : Nat} (hn : n ≤ 8) :
    b.memRead (8 * j) n = b.byte j % 2 ^ n := by
  induction n with
  | zero => simp [Block.memRead, Nat.mod_one]
  | succ n ih =>
    have hbit : b.bit (8 * j + n) = b.byte j / 2 ^ n % 2 := by
      rw [Block.bit, show (8 * j + n) / 8 = j by omega, show (8 * j + n) % 8 = n by omega]
    rw [Block.memRead, ih (by omega), hbit, Nat.mod_pow_succ, Nat.mul_comm (2 ^ n)]

theorem Block.memRead_byte (b : Block) (j : Nat) : b.memRead (8 * j) 8 = b.byte j := by
  exact (b.memRead_byte_low j le_rfl).trans (Nat.mod_eq_of_lt (b.byte_lt j))

theorem Block.memRead_twoBytes (b : Block) (j : Nat) :
    b.memRead (8 * j) 16 = b.byte j + 256 * b.byte (j + 1) := by
  rw [show 16 = 8 + 8 from rfl, b.memRead_add, b.memRead_byte, ← b.memRead_byte (j + 1)]
  rfl

theorem Block.bc1C0_eq (b : Block) (o : Nat) : b.bc1C0 o = b.byte o + 256 * b.byte (o + 1) :=
  b.memRead_twoBytes o

theorem Block.bc1C1_eq (b : Block) (o : Nat) :
    b.bc1C1 o = b.byte (o + 2) + 256 * b.byte (o + 3) := by
  rw [Block.bc1C1, show 8 * o + 16 = 8 * (o + 2) by omega, b.memRead_twoBytes]

theorem Block.bc4E0_eq (b : Block) (o : Nat) : b.bc4E0 o = b.byte o := b.memRead_byte o

theorem Block.bc4E1_eq (b : Block) (o : Nat) : b.bc4E1 o = b.byte (o + 1) := b.memRead_byte (o + 1)

/-! ### The palettes answer every index -/

theorem palBc1_length (c0 c1 : Nat) (f4 : Bool) : (palBc1 c0 c1 f4).length = 4 := by
  by_cases h : c0 > c1 ∨ f4 = true
  · rw [palBc1_of_fourColours h]; rfl
  · rw [palBc1_of_threeColours h]; rfl

theorem pal8_length (e0 e1 : Nat) : (pal8 e0 e1).length = 8 := by
  unfold pal8
  split <;> rfl

/-- Below the length of a list the default of `getD` is not taken. -/
theorem getElem?_eq_some_getD {α : Type} {l : List α} {k : Nat} (h : k < l.length) (d : α) :
    l[k]? = some (l.getD k d) := by
  rw [List.getElem?_eq_getElem h, List.getD_eq_getElem l d h]

/-! ### One half of a block -/

/-- Pixel `i` of a BC1 half is the palette entry its index selects (R190). -/
theorem palBc1_getElem?_index (b : Block) (o : Nat) (f4 : Bool) (i : Nat) :
    (palBc1 (b.byte o + 256 * b.byte (o + 1)) (b.byte (o + 2) + 256 * b.byte (o + 3)) f4)[
      b.memRead (8 * o + 32 + 2 * i) 2]? = some (decodeBc1 b o f4 i) := by
  rw [decodeBc1, b.bc1C0_eq, b.bc1C1_eq]
  refine getElem?_eq_some_getD ?_ _
  rw [palBc1_length]
  exact b.memRead_lt _ 2

/-- The 4-bit alpha is widened by repeating it (R152). -/
theorem exp4_eq {a : Nat} (ha : a < 16) : exp4 a = 17 * a := by
  rw [exp4, Nat.mul_comm a 16, ← Nat.two_pow_add_eq_or_of_lt (i := 4) ha a]
  omega

/-- Removing the bias is subtraction of bytes (R198). -/
theorem ofNat_unbiased (x : Nat) (bias : Byte) :
    BitVec.ofNat 8 (unbiased x bias.toNat) = BitVec.ofNat 8 x - bias := by
  apply BitVec.eq_of_toNat_eq
  rw [BitVec.toNat_sub, BitVec.toNat_ofNat, BitVec.toNat_ofNat, unbiased]
  omega

/-- Byte `i` of a BC4 half, with the palette of its biased endpoint bytes (R191, R197, R198). -/
theorem ofNat_decodeBc4 (b : Block) (o : Nat) (bias : Byte) (i : Nat) :
    BitVec.ofNat 8 (decodeBc4 b o bias.toNat i) =
      BitVec.ofNat 8 ((pal8 ((b.byte o + bias.toNat) % 256) ((b.byte (o + 1) + bias.toNat) % 256)).getD
        (b.memRead (8 * o + 16 + 3 * i) 3) 0) - bias := by
  rw [decodeBc4, ofNat_unbiased, bc4Palette, b.bc4E0_eq, b.bc4E1_eq]
  rfl

/-- The same, with the palette entry found: every index has one. -/
theorem pal8_getElem?_index (b : Block) (o : Nat) (bias : Byte) (i : Nat) :
    ((pal8 ((b.byte o + bias.toNat) % 256) ((b.byte (o + 1) + bias.toNat) % 256))[
      b.memRead (8 * o + 16 + 3 * i) 3]?.map fun x => BitVec.ofNat 8 x - bias) =
      some (BitVec.ofNat 8 (decodeBc4 b o bias.toNat i)) := by
  have hidx := b.memRead_lt (8 * o + 16 + 3 * i) 3
  rw [ofNat_decodeBc4, getElem?_eq_some_getD (by rw [pal8_length]; exact hidx) 0, Option.map_some]

/-- With bias 0 the endpoints are the stored bytes themselves. -/
theorem ofNat_decodeBc4_zero (b : Block) (o i : Nat) :
    BitVec.ofNat 8 (decodeBc4 b o 0 i) =
      BitVec.ofNat 8 ((pal8 (b.byte o) (b.byte (o + 1))).getD (b.memRead (8 * o + 16 + 3 * i) 3) 0) := by
  simpa only [BitVec.ofNat_eq_ofNat, BitVec.toNat_ofNat, Nat.zero_mod, Nat.add_zero,
    BitVec.sub_zero, Nat.mod_eq_of_lt (b.byte_lt _)] using ofNat_decodeBc4 b o 0 i

/-! ### How a decode to `PIX8` ends -/

theorem keepsAllButPix8_setPix8 (s : State) (f : Fin 16 → Pixel Byte) :
    KeepsAllButPix8 s (s.setPix8 f) := by
  simp [KeepsAllButPix8, KeepsHostSide]

theorem keepsAllButPix8_setPix8Channel (s : State) (c : Channel) (f : Fin 16 → Byte) :
    KeepsAllButPix8 s (s.setPix8Channel c f) := by
  simp [KeepsAllButPix8, KeepsHostSide]

/-- A command that ends by writing the cursor and `STAT <- 0` after register writes that keep all but
`PIX8` (R82 step 4). -/
theorem completes_keepingAllButPix8 {i : Instr} {s t : State} {p : Nat} {P : State → Prop}
    (hexec : exec i s = .next (t.setPos p).complete) (hp : p < 256) (hkeep : KeepsAllButPix8 s t)
    (hP : P (t.setPos p).complete) :
    Completes i s fun u => P u ∧ EndsAt u p ∧ KeepsAllButPix8 s u := by
  have hpos : (t.setPos p).complete.pos.toNat = p := by simp [Nat.mod_eq_of_lt hp]
  exact ⟨_, hexec, hP, ⟨hpos, rfl⟩, hkeep⟩

/-! ### The five commands -/

/-- Settles O27: every 2-bit index has its palette entry, and the colours are the block's first four
bytes. -/
theorem decBc1WritesTheIndexedPalette : Obligations.DecBc1WritesTheIndexedPalette := by
  unfold Obligations.DecBc1WritesTheIndexedPalette
  intro f4 s
  refine completes_keepingAllButPix8 rfl (by decide) (keepsAllButPix8_setPix8 s _) fun i => ?_
  have hentry := congrArg (Option.map bytePixel) (palBc1_getElem?_index s.blk 0 f4 i)
  simpa using hentry

/-- Settles O29: the alpha field has four bits, so widening it multiplies by 17. -/
theorem decBc2AddsRawAlpha : Obligations.DecBc2AddsRawAlpha := by
  unfold Obligations.DecBc2AddsRawAlpha
  intro s
  refine completes_keepingAllButPix8 rfl (by decide) (keepsAllButPix8_setPix8 s _) fun i => ?_
  have halpha : exp4 (s.blk.bc2Alpha i) = 17 * s.blk.memRead (4 * i.val) 4 :=
    exp4_eq (s.blk.memRead_lt _ 4)
  simp [halpha]

/-- Settles O30: as bytes, the BC4 half with bias 0 is its palette entry. -/
theorem decBc3AddsBc4Alpha : Obligations.DecBc3AddsBc4Alpha := by
  unfold Obligations.DecBc3AddsBc4Alpha
  intro s
  refine completes_keepingAllButPix8 rfl (by decide) (keepsAllButPix8_setPix8 s _) fun i => ?_
  have halpha := ofNat_decodeBc4_zero s.blk 0 i
  simpa [bytePixel, Pixel.map] using halpha

/-- Settles O31: the written channel is the BC4 half, and a channel write keeps the others. -/
theorem decBc4WritesOneChannel : Obligations.DecBc4WritesOneChannel := by
  unfold Obligations.DecBc4WritesOneChannel
  intro bias chan s
  refine completes_keepingAllButPix8 rfl (by decide) (keepsAllButPix8_setPix8Channel s chan _)
    fun i => ⟨?chan, fun c hc => ?others⟩
  case chan => simpa using pal8_getElem?_index s.blk 0 bias i
  case others => simp [Pixel.get_set_other _ _ _ _ hc]

/-- Settles O32: each channel is the BC4 half at its own bytes, as in `DEC_BC4`. -/
theorem decBc5WritesRedAndGreen : Obligations.DecBc5WritesRedAndGreen := by
  unfold Obligations.DecBc5WritesRedAndGreen
  intro bias s
  refine completes_keepingAllButPix8 rfl (by decide) ?keep fun i => ⟨?red, ?green, ?rest⟩
  case keep => exact keepsAllButPix8_setPix8Channel (s.setPix8Channel .r _) .g _
  case red => simpa [Pixel.set] using pal8_getElem?_index s.blk 0 bias i
  case green => simpa [Pixel.set] using pal8_getElem?_index s.blk 8 bias i
  case rest => simp [Pixel.set]

end Sys2Proof.Machine

/-! SUPPORT. The BC6H descriptors (44_bc6h_decode.md R223, R224): the runs of a descriptor tile its header,
so the header's entries, in order, are the bits of the runs one after another. -/

namespace Sys2Proof.Machine

/-! ### A descriptor whose runs tile an interval -/

/-- Each run starts where the one before it ends; the first at `lo`, the last ending just below `hi`. -/
def runsTile : List HeaderRun → Nat → Nat → Bool
  | [], lo, hi => lo = hi
  | run :: runs, lo, hi => run.lo = lo ∧ lo ≤ run.hi ∧ runsTile runs (run.hi + 1) hi

/-- The (field, bit) pairs of a descriptor, run after run. -/
def descLayout (desc : List HeaderRun) : List (HeaderField × Nat) :=
  desc.flatMap fun run =>
    (List.range' run.lo (run.hi + 1 - run.lo)).map fun p => (run.field, run.bitAt p)

/-- The bits of the field `f` that a descriptor names, in the order of the header. -/
def fieldBits (desc : List HeaderRun) (f : HeaderField) : List Nat :=
  (descLayout desc).filterMap fun x => if x.1 = f then some x.2 else none

@[simp] theorem runsTile_nil (lo hi : Nat) : runsTile [] lo hi ↔ lo = hi := by simp [runsTile]

theorem runsTile_cons {run : HeaderRun} {runs : List HeaderRun} {lo hi : Nat} :
    runsTile (run :: runs) lo hi ↔ run.lo = lo ∧ lo ≤ run.hi ∧ runsTile runs (run.hi + 1) hi := by
  simp [runsTile]

theorem headerEntry_cons_of_mem {run : HeaderRun} {p : Nat} (runs : List HeaderRun)
    (hlo : run.lo ≤ p) (hhi : p ≤ run.hi) :
    headerEntry (run :: runs) p = some (run.field, run.bitAt p) := by
  simp [headerEntry, hlo, hhi]

theorem headerEntry_cons_of_lt {run : HeaderRun} {p : Nat} (runs : List HeaderRun)
    (hhi : run.hi < p) : headerEntry (run :: runs) p = headerEntry runs p := by
  simp [headerEntry, Nat.not_le.mpr hhi]

theorem le_of_runsTile {runs : List HeaderRun} {lo hi : Nat} (h : runsTile runs lo hi) : lo ≤ hi := by
  induction runs generalizing lo with
  | nil => exact ((runsTile_nil lo hi).mp h).le
  | cons run runs ih =>
    obtain ⟨-, hle, hrest⟩ := runsTile_cons.mp h
    exact (Nat.le_succ_of_le hle).trans (ih hrest)

/-- The bit just above the tiled interval is no header bit. -/
theorem headerEntry_eq_none_of_runsTile {runs : List HeaderRun} {lo hi : Nat}
    (h : runsTile runs lo hi) : headerEntry runs hi = none := by
  induction runs generalizing lo with
  | nil => rfl
  | cons run runs ih =>
    obtain ⟨-, -, hrest⟩ := runsTile_cons.mp h
    rw [headerEntry_cons_of_lt runs (le_of_runsTile hrest), ih hrest]

/-- On the tiled interval the entries are the runs' bits in order: the first run answers its own
positions, the others answer those behind it. -/
theorem map_headerEntry_of_runsTile {runs : List HeaderRun} {lo hi : Nat}
    (h : runsTile runs lo hi) :
    (List.range' lo (hi - lo)).map (headerEntry runs) = (descLayout runs).map some := by
  induction runs generalizing lo with
  | nil =>
    obtain rfl := (runsTile_nil lo hi).mp h
    simp [descLayout]
  | cons run runs ih =>
    obtain ⟨rfl, hle, hrest⟩ := runsTile_cons.mp h
    have hhi := le_of_runsTile hrest
    have hsplit : List.range' run.lo (hi - run.lo) =
        List.range' run.lo (run.hi + 1 - run.lo) ++ List.range' (run.hi + 1) (hi - (run.hi + 1)) := by
      rw [show hi - run.lo = (run.hi + 1 - run.lo) + (hi - (run.hi + 1)) by omega,
        ← List.range'_append_1, Nat.add_sub_of_le (Nat.le_succ_of_le hle)]
    have hfirst : ∀ p ∈ List.range' run.lo (run.hi + 1 - run.lo),
        headerEntry (run :: runs) p = some (run.field, run.bitAt p) := by
      intro p hp
      obtain ⟨hlo, hlt⟩ := List.mem_range'_1.mp hp
      exact headerEntry_cons_of_mem runs hlo (by omega)
    have hbehind : ∀ p ∈ List.range' (run.hi + 1) (hi - (run.hi + 1)),
        headerEntry (run :: runs) p = headerEntry runs p := by
      intro p hp
      exact headerEntry_cons_of_lt runs (List.mem_range'_1.mp hp).1
    rw [hsplit, List.map_append, List.map_congr_left hfirst, List.map_congr_left hbehind, ih hrest]
    simp [descLayout]

/-- A pair occurs in the layout as often as its bit occurs among those of its field. -/
theorem count_descLayout (desc : List HeaderRun) (f : HeaderField) (j : Nat) :
    (descLayout desc).count (f, j) = (fieldBits desc f).count j := by
  rw [fieldBits, List.count_filterMap, List.count]
  congr 1
  funext x
  obtain ⟨g, k⟩ := x
  by_cases hg : g = f <;> simp [hg]

theorem mem_fieldBits {desc : List HeaderRun} {f : HeaderField} {j : Nat} :
    j ∈ fieldBits desc f ↔ (f, j) ∈ descLayout desc := by
  simp [fieldBits]

theorem exists_run_of_mem_descLayout {desc : List HeaderRun} {f : HeaderField} {j : Nat}
    (h : (f, j) ∈ descLayout desc) : ∃ run ∈ desc, run.field = f := by
  simp only [descLayout, List.mem_flatMap, List.mem_map, Prod.mk.injEq] at h
  obtain ⟨run, hrun, -, -, hf, -⟩ := h
  exact ⟨run, hrun, hf⟩

/-! ### The fourteen descriptors -/

/-- The fields a header may name (R221). -/
def headerFields : List HeaderField :=
  [.m, .d, .r 0, .g 0, .b 0, .r 1, .g 1, .b 1, .r 2, .g 2, .b 2, .r 3, .g 3, .b 3]

/-- The number of bits that the mode's row gives to a field (R222). -/
def Bc6hMode.fieldWidth (info : Bc6hMode) : HeaderField → Nat
  | .m => info.prefixBits
  | .d => match info.tier with
    | .zero => 0
    | _ => 5
  | .r k => if k = 0 then info.pA.r else if k < info.tier.endpoints then info.pD.r else 0
  | .g k => if k = 0 then info.pA.g else if k < info.tier.endpoints then info.pD.g else 0
  | .b k => if k = 0 then info.pA.b else if k < info.tier.endpoints then info.pD.b else 0

theorem bc6hModes_tier_hdr : ∀ info ∈ bc6hModes,
    info.tier = .zero ∧ info.hdr = 65 ∨ info.tier = .one ∧ info.hdr = 82 := by decide

theorem bc6hModes_runsTile : ∀ info ∈ bc6hModes, runsTile info.desc 0 info.hdr := by decide

theorem bc6hModes_field_mem : ∀ info ∈ bc6hModes, ∀ run ∈ info.desc, run.field ∈ headerFields := by
  decide

/-- What R223 says of the field bits, in one statement: those of each field are the numbers below its
width, each once. -/
theorem bc6hModes_fieldBits_perm : ∀ info ∈ bc6hModes, ∀ f ∈ headerFields,
    (fieldBits info.desc f).Perm (List.range (info.fieldWidth f)) := by decide

theorem bc6hModes_headerEntry_mode : ∀ info ∈ bc6hModes, ∀ p < info.prefixBits,
    headerEntry info.desc p = some (.m, p) := by decide

theorem bc6hModes_block_ends : ∀ info ∈ bc6hModes,
    info.hdr + 16 * info.ip.bits = 128 + (info.tier.toNat + 1) := by decide

theorem bc6hModes_lowBits_twoRegions : ∀ info ∈ bc6hModes, info.tier = .one →
    (∀ j < 5, headerEntry info.desc (77 + j) = some (.d, j)) ∧
      headerEntry info.desc 65 = some (.r 2, 0) ∧ headerEntry info.desc 71 = some (.r 3, 0) := by
  decide

theorem bc6hModes_lowBits : ∀ info ∈ bc6hModes,
    headerEntry info.desc 5 = some (.r 0, 0) ∧ headerEntry info.desc 15 = some (.g 0, 0) ∧
    headerEntry info.desc 25 = some (.b 0, 0) ∧ headerEntry info.desc 35 = some (.r 1, 0) ∧
    headerEntry info.desc 45 = some (.g 1, 0) ∧ headerEntry info.desc 55 = some (.b 1, 0) := by
  decide

section
variable {info : Bc6hMode} (hinfo : info ∈ bc6hModes)
include hinfo

theorem bc6hModes_entries :
    (List.range info.hdr).map (headerEntry info.desc) = (descLayout info.desc).map some := by
  rw [List.range_eq_range']
  exact map_headerEntry_of_runsTile (bc6hModes_runsTile info hinfo)

theorem bc6hModes_count {f : HeaderField} (hf : f ∈ headerFields) (j : Nat) :
    (descLayout info.desc).count (f, j) = if j < info.fieldWidth f then 1 else 0 := by
  rw [count_descLayout, (bc6hModes_fieldBits_perm info hinfo f hf).count_eq, List.count_range]

theorem bc6hModes_lt_fieldWidth {f : HeaderField} {j : Nat} (h : (f, j) ∈ descLayout info.desc) :
    j < info.fieldWidth f := by
  obtain ⟨run, hrun, rfl⟩ := exists_run_of_mem_descLayout h
  have hperm := bc6hModes_fieldBits_perm info hinfo _ (bc6hModes_field_mem info hinfo run hrun)
  exact List.mem_range.mp (hperm.mem_iff.mp (mem_fieldBits.mpr h))

/-- The mode bits are the header's first bits, and the field has no other. -/
theorem bc6hModes_headerEntry_mode_iff {p : Nat} (hp : p < info.hdr) :
    headerEntry info.desc p = some (.m, p) ↔ p < info.prefixBits := by
  refine ⟨fun h => bc6hModes_lt_fieldWidth hinfo (f := .m) ?_, bc6hModes_headerEntry_mode info hinfo p⟩
  have hentry := List.mem_map_of_mem (f := headerEntry info.desc) (List.mem_range.mpr hp)
  rw [bc6hModes_entries hinfo, h] at hentry
  simpa using hentry

end

/-- Settles O25: the runs of each descriptor tile its header, so its entries are the layout, in which
the bits of every field are a permutation of the numbers below the field's width. -/
theorem bc6hModeTablesAreWellFormed : Obligations.Bc6hModeTablesAreWellFormed := by
  unfold Obligations.Bc6hModeTablesAreWellFormed
  intro info hinfo entries count widths
  have hentries : entries = (descLayout info.desc).map some := bc6hModes_entries hinfo
  have hwidths : ∀ f, widths f = info.fieldWidth f := by
    intro f
    cases f with
    | d =>
      simp only [widths, Bc6hMode.fieldWidth]
      cases info.tier <;> rfl
    | m | r k | g k | b k => rfl
  refine ⟨bc6hModes_tier_hdr info hinfo,
    headerEntry_eq_none_of_runsTile (bc6hModes_runsTile info hinfo), ?named,
    fun p hp => bc6hModes_headerEntry_mode_iff hinfo hp, ?once, ?noOther,
    bc6hModes_block_ends info hinfo, bc6hModes_lowBits_twoRegions info hinfo,
    bc6hModes_lowBits info hinfo⟩
  case named =>
    rintro e he rfl
    simp [hentries] at he
  case once =>
    intro f hf j _
    have hcount : count f j = (descLayout info.desc).count (f, j) := by
      simp only [count, hentries]
      exact List.count_map_of_injective _ some (Option.some_injective _) (f, j)
    rw [hcount, hwidths f, bc6hModes_count hinfo (List.mem_cons_of_mem _ hf)]
  case noOther =>
    rintro e he f j rfl
    rw [hwidths f]
    exact bc6hModes_lt_fieldWidth hinfo (by simpa [hentries] using he)

end Sys2Proof.Machine

/-! SUPPORT. The BC7 header walk, index selector and channel rotation (45_bc7_decode.md R263, R267, R275,
R276, R278): what each of them gives, by its cases. -/

namespace Sys2Proof.Machine

/-! ### The rotation field -/

/-- A walk step that completes is a completed walk followed by a completed step. -/
theorem Walk.bind_eq_ok {α β : Type} {x : Walk α} {f : α → Nat → Walk β} {w : β} {q : Nat} :
    x.bind f = .ok w q ↔ ∃ v p, x = .ok v p ∧ f v p = .ok w q := by
  cases x <;> simp

/-- The rotation of a header that is read is the value of its own `getBits` (R267). -/
theorem getBits_of_bc7Header {info : Bc7Mode} {b : Block} {pos q : Nat} {x : Bc7Fields}
    (h : bc7Header info b pos = .ok x q) :
    ∃ p p', getBits b 128 info.rb p = .ok x.rot p' := by
  simp only [bc7Header, Walk.bind_eq_ok] at h
  obtain ⟨shape, p, -, rot, p', hrot, isel, _, -, r, _, -, g, _, -, bl, _, -, a, _, -, pbits, _, -,
    hx⟩ := h
  cases hx
  exact ⟨p, p', hrot⟩

/-- A field of no bits reads as zero. -/
theorem bc7Header_rot_eq_zero {info : Bc7Mode} {b : Block} {pos q : Nat} {x : Bc7Fields}
    (hrb : info.rb = 0) (h : bc7Header info b pos = .ok x q) : x.rot = 0 := by
  obtain ⟨p, p', hrot⟩ := getBits_of_bc7Header h
  rw [hrb, getBits_zero, Walk.ok.injEq] at hrot
  exact hrot.1.symm

/-! ### The rotation -/

@[simp] theorem rotate_zero (p : Pixel Nat) : rotate 0 p = p := rfl

@[simp] theorem rotate_one (p : Pixel Nat) : rotate 1 p = ⟨p.a, p.g, p.b, p.r⟩ := rfl

@[simp] theorem rotate_two (p : Pixel Nat) : rotate 2 p = ⟨p.r, p.a, p.b, p.g⟩ := rfl

@[simp] theorem rotate_three (p : Pixel Nat) : rotate 3 p = ⟨p.r, p.g, p.a, p.b⟩ := rfl

/-- Each rotation is one swap, or nothing. -/
theorem rotate_rotate (rot : Nat) (p : Pixel Nat) : rotate rot (rotate rot p) = p :=
  match rot with
  | 0 | 1 | 2 | 3 | _ + 4 => rfl

/-- Settles O47: without a field the header walk reads no bits for the rotation, and each rotation is
a swap. -/
theorem rotationSwapsAlphaAndIsItsOwnInverse :
    Obligations.RotationSwapsAlphaAndIsItsOwnInverse := by
  unfold Obligations.RotationSwapsAlphaAndIsItsOwnInverse
  refine ⟨fun info _ hrb b x pos h => bc7Header_rot_eq_zero hrb h, fun p => ?_⟩
  exact ⟨rotate_zero p, rotate_one p, rotate_two p, rotate_three p, fun r _ => rotate_rotate r p⟩

/-! ### The mode table -/

theorem IndexPrec.bits_mem (ip : IndexPrec) : ip.bits ∈ [2, 3, 4] := by cases ip <;> decide

/-- One P-bit per endpoint or per region, or none (R263 (a)). -/
theorem bc7Modes_np : ∀ info ∈ bc7Modes,
    info.np = 0 ∨ info.np = info.tier.endpoints ∨ info.np = info.tier.toNat + 1 := by decide

/-- A P-bit widens exactly the channels that are stored (R263 (b)). -/
theorem bc7Modes_precP (c : Channel) : ∀ info ∈ bc7Modes, info.precP.get c =
    if info.np > 0 ∧ info.prec.get c > 0 then info.prec.get c + 1 else info.prec.get c := by
  cases c <;> decide

/-- Every channel fits the unquantiser (R263 (c)). -/
theorem bc7Modes_precP_le (c : Channel) : ∀ info ∈ bc7Modes, info.precP.get c ≤ 8 := by
  cases c <;> decide

/-- Every header field fits one `getBits` (R263 (c)). -/
theorem bc7Modes_fields_le : ∀ info ∈ bc7Modes, info.sb ≤ 8 ∧ info.rb ≤ 8 ∧ info.ib ≤ 8 := by decide

/-- The prefix, the fields and the index planes fill the block; each region's fix-up index is one bit
shorter, and so is the first of the secondary plane (R263 (d)). -/
theorem bc7Modes_fill_block : ∀ info ∈ bc7Modes,
    info.mode + 1 + info.sb + info.rb + info.ib +
        info.tier.endpoints * (info.prec.r + info.prec.g + info.prec.b + info.prec.a) + info.np +
        16 * info.ip.bits + info.ip2.elim 0 (fun ip2 => 16 * ip2.bits - 1) =
      128 + (info.tier.toNat + 1) := by decide

/-- A channel that is not stored has no P-bit either. -/
theorem bc7Modes_precP_eq_zero {info : Bc7Mode} (hinfo : info ∈ bc7Modes) {c : Channel}
    (h : info.prec.get c = 0) : info.precP.get c = 0 := by
  simp [bc7Modes_precP c info hinfo, h]

/-- Settles O26: clause by clause over the eight rows. -/
theorem bc7ModeTableIsWellFormed : Obligations.Bc7ModeTableIsWellFormed := by
  unfold Obligations.Bc7ModeTableIsWellFormed
  intro info hinfo
  obtain ⟨hsb, hrb, hib⟩ := bc7Modes_fields_le info hinfo
  refine ⟨bc7Modes_np info hinfo, fun c => bc7Modes_precP c info hinfo,
    fun c => ⟨bc7Modes_precP_le c info hinfo, bc7Modes_precP_eq_zero hinfo⟩, hsb, hrb, hib,
    info.ip.bits_mem, fun ip2 _ => ip2.bits_mem, ?fill⟩
  case fill =>
    have hfill := bc7Modes_fill_block info hinfo
    cases hip2 : info.ip2 <;> simpa only [hip2, Option.elim] using hfill

/-! ### The index selector -/

/-- With the selector set, plane 2 drives the colour and plane 1 the alpha (R275). -/
theorem bc7Interp_of_isel_ne_zero {info : Bc7Mode} {ip2 : IndexPrec} {isel : Nat}
    (hip2 : info.ip2 = some ip2) (hisel : isel ≠ 0) (A B : Pixel Nat) (w1 w2 : Nat) :
    bc7Interp info isel A B w1 w2 = interpRgba A B w2 w1 ip2 info.ip := by
  simp [bc7Interp, hip2, hisel]

/-- With one region every pixel lies between endpoints 0 and 1 (R171, R275). -/
theorem bc7Pixel_of_one_region {info : Bc7Mode} (htier : info.tier = .zero) (x : Bc7Fields)
    (w1 w2 : List Nat) (i : Nat) :
    bc7Pixel info x w1 w2 i =
      rotate x.rot (bc7Interp info x.isel (bc7Endpoint info x 0) (bc7Endpoint info x 1)
        (w1.getD i 0) (w2.getD i 0)) := by
  simp [bc7Pixel, htier, regionOf]

/-- Settles O48: the selector gives the colour plane 2 and the alpha plane 1, then rotation 1 swaps
the red and the alpha. -/
theorem mode4SelectorSendsPlaneTwoToColour : Obligations.Mode4SelectorSendsPlaneTwoToColour := by
  unfold Obligations.Mode4SelectorSendsPlaneTwoToColour
  intro x w1 w2 i hrot hisel A B
  have hip : bc7Info4.ip = .two := rfl
  have hip2 : bc7Info4.ip2 = some .three := rfl
  have hsel : x.isel ≠ 0 := hisel ▸ one_ne_zero
  calc bc7Pixel bc7Info4 x w1 w2 i
      = rotate x.rot (bc7Interp bc7Info4 x.isel A B (w1.getD i 0) (w2.getD i 0)) :=
        bc7Pixel_of_one_region rfl x w1 w2 i
    _ = rotate 1 (interpRgba A B (w2.getD i 0) (w1.getD i 0) .three .two) := by
        rw [hrot, bc7Interp_of_isel_ne_zero hip2 hsel, hip]
    _ = _ := rotate_one _

end Sys2Proof.Machine

/-! SUPPORT. Bit writes read back (20_memory.md R53), and the index search and packing of the BC4
encoder (46_bc4_bc5_encode.md R310, R312). -/

namespace Sys2Proof.Machine

/-! ### The smallest nearest position (R310) -/

/-- Position `k` of a palette holds an entry nearest to `x`, and no earlier position does. -/
def FirstNearest (P : List Nat) (x k : Nat) : Prop :=
  k < P.length ∧ (∀ j < P.length, absDiff x (P.getD k 0) ≤ absDiff x (P.getD j 0)) ∧
    ∀ j < k, absDiff x (P.getD k 0) < absDiff x (P.getD j 0)

section
variable {P : List Nat} {x k p : Nat}

theorem getD_concat_of_lt {j : Nat} (hj : j < P.length) : (P ++ [p]).getD j 0 = P.getD j 0 :=
  P.getD_append [p] 0 j hj

theorem getD_concat_length : (P ++ [p]).getD P.length 0 = p := by
  simp

/-- A bound on the distances to all entries and to `p` holds with `p` behind them. -/
theorem le_absDiff_getD_concat {d : Nat} (hP : ∀ j < P.length, d ≤ absDiff x (P.getD j 0))
    (hp : d ≤ absDiff x p) : ∀ j < (P ++ [p]).length, d ≤ absDiff x ((P ++ [p]).getD j 0) := by
  intro j hj
  rw [List.length_append, List.length_singleton] at hj
  obtain hlt | rfl := Nat.lt_succ_iff_lt_or_eq.mp hj
  · rw [getD_concat_of_lt hlt]
    exact hP j hlt
  · rwa [getD_concat_length]

theorem firstNearest_singleton (p x : Nat) : FirstNearest [p] x 0 := by simp [FirstNearest]

/-- A nearer entry behind the palette is its first nearest one. -/
theorem firstNearest_concat_of_nearer (h : FirstNearest P x k)
    (hp : absDiff x p < absDiff x (P.getD k 0)) : FirstNearest (P ++ [p]) x P.length := by
  obtain ⟨-, hmin, -⟩ := h
  have hlt : ∀ j < P.length, absDiff x p < absDiff x (P.getD j 0) := fun j hj =>
    hp.trans_le (hmin j hj)
  rw [FirstNearest, getD_concat_length]
  refine ⟨by simp, le_absDiff_getD_concat (fun j hj => (hlt j hj).le) le_rfl, fun j hj => ?_⟩
  rw [getD_concat_of_lt hj]
  exact hlt j hj

/-- An entry behind the palette that is no nearer changes nothing. -/
theorem firstNearest_concat_of_not_nearer (h : FirstNearest P x k)
    (hp : ¬ absDiff x p < absDiff x (P.getD k 0)) : FirstNearest (P ++ [p]) x k := by
  obtain ⟨hk, hmin, hfirst⟩ := h
  have hlen : k < (P ++ [p]).length := by
    rw [List.length_append]
    omega
  rw [FirstNearest, getD_concat_of_lt hk]
  refine ⟨hlen, le_absDiff_getD_concat hmin (Nat.not_lt.mp hp), fun j hj => ?_⟩
  rw [getD_concat_of_lt (hj.trans hk)]
  exact hfirst j hj

end

/-- The search goes on from the first nearest position of the entries before. -/
theorem firstNearest_nearestFrom {P : List Nat} {x k : Nat} (ps : List Nat)
    (h : FirstNearest P x k) :
    FirstNearest (P ++ ps) x (nearestFrom x ps P.length k (absDiff x (P.getD k 0))) := by
  induction ps generalizing P k with
  | nil => simpa [nearestFrom] using h
  | cons p ps ih =>
    rw [nearestFrom, List.append_cons]
    split
    case isTrue hp =>
      simpa only [getD_concat_length, List.length_append, List.length_singleton] using
        ih (firstNearest_concat_of_nearer h hp)
    case isFalse hp =>
      simpa only [getD_concat_of_lt h.1, List.length_append, List.length_singleton] using
        ih (firstNearest_concat_of_not_nearer h hp)

theorem firstNearest_nearestIndex {P : List Nat} (x : Nat) (hP : P ≠ []) :
    FirstNearest P x (nearestIndex P x) := by
  cases P with
  | nil => exact absurd rfl hP
  | cons p ps => exact firstNearest_nearestFrom ps (firstNearest_singleton p x)

/-! ### What `encodeBc4` returns (R310, R311) -/

theorem unbiased_lt (x bias : Nat) : unbiased x bias < 256 := Nat.mod_lt _ (by decide)

@[simp] theorem encodeBc4_idx_length (samples : List Nat) (bias : Nat) :
    (encodeBc4 samples bias).idx.length = samples.length := by simp [encodeBc4]

/-- Index `i` is that of biased sample `i` in the palette of the chosen pair. -/
theorem encodeBc4_idx_getD {samples : List Nat} {i : Nat} (bias : Nat) (hi : i < samples.length) :
    let v := samples.map fun x => biased x bias
    (encodeBc4 samples bias).idx.getD i 0 =
      nearestIndex (pal8 (bestPair v).a0 (bestPair v).a1) (v.getD i 0) := by
  intro v
  have hv : i < v.length := by simpa [v] using hi
  rw [List.getD_eq_getElem _ _ (by simpa using hi), List.getD_eq_getElem _ _ hv]
  simp [encodeBc4, v]

theorem nearestIndex_pal8_lt (e0 e1 x : Nat) : nearestIndex (pal8 e0 e1) x < 8 := by
  have hne : pal8 e0 e1 ≠ [] := List.ne_nil_of_length_eq_add_one (pal8_length e0 e1)
  obtain ⟨hlt, -, -⟩ := firstNearest_nearestIndex x hne
  rwa [pal8_length] at hlt

/-- The endpoints are bytes and the indices have three bits. -/
theorem encodeBc4_bounds (samples : List Nat) (bias : Nat) :
    (encodeBc4 samples bias).b0 < 256 ∧ (encodeBc4 samples bias).b1 < 256 ∧
      ∀ k ∈ (encodeBc4 samples bias).idx, k < 8 := by
  refine ⟨unbiased_lt _ _, unbiased_lt _ _, fun k hk => ?_⟩
  obtain ⟨x, -, rfl⟩ := List.mem_map.mp hk
  exact nearestIndex_pal8_lt _ _ x

/-- Settles O53: the search keeps the first nearest position of the entries it has seen. -/
theorem encodedIndicesAreTheFirstNearestEntries :
    Obligations.EncodedIndicesAreTheFirstNearestEntries := by
  unfold Obligations.EncodedIndicesAreTheFirstNearestEntries
  exact ⟨fun P x hP => firstNearest_nearestIndex x hP,
    fun samples bias i hi => encodeBc4_idx_getD bias hi⟩

/-! ### Writing bits (20_memory.md R51 to R53) -/

theorem Block.bit_eq_getLsbD (b : Block) (p : Nat) :
    b.bit p = ((b[p / 8]?.getD 0).getLsbD (p % 8)).toNat := (Nat.toNat_testBit _ _).symm

/-- A byte with bit `k` written. -/
theorem getLsbD_writeBit (x : Byte) (v : Bool) {k i : Nat} (hi : i < 8) :
    (if v then x ||| (1#8 <<< k) else x &&& ~~~(1#8 <<< k)).getLsbD i =
      if i = k then v else x.getLsbD i := by
  have hone : (1#8 <<< k).getLsbD i = decide (i = k) := by
    rw [← BitVec.twoPow_eq, BitVec.getLsbD_twoPow]
    by_cases hik : i = k
    · simp [← hik, hi]
    · simp [hik, Ne.symm hik]
  cases v with
  | false =>
    simp only [Bool.false_eq_true, if_false, BitVec.getLsbD_and, BitVec.getLsbD_not, hone, hi]
    by_cases hik : i = k <;> simp [hik]
  | true =>
    simp only [if_true, BitVec.getLsbD_or, hone]
    by_cases hik : i = k <;> simp [hik]

theorem Block.bit_setBit (b : Block) {p : Nat} (v : Bool) (q : Nat) (hp : p < 128) :
    (b.setBit p v).bit q = if q = p then v.toNat else b.bit q := by
  by_cases hbyte : q / 8 = p / 8
  · have hlt : p / 8 < 16 := by omega
    have hiff : q % 8 = p % 8 ↔ q = p := by omega
    have hmod : q % 8 < 8 := Nat.mod_lt q (by decide)
    simp only [Block.bit_eq_getLsbD, Block.setBit, hbyte, hlt, getElem?_pos, Vector.getElem_ofFn,
      Option.getD_some, if_true, Fin.getElem_fin, getLsbD_writeBit _ _ hmod, hiff,
      apply_ite Bool.toNat]
  · have hne : q ≠ p := fun h => hbyte (congrArg (· / 8) h)
    have hkeep : (b.setBit p v)[q / 8]? = b[q / 8]? := by
      by_cases hlt : q / 8 < 16 <;> simp [Block.setBit, hlt, hbyte]
    rw [if_neg hne, Block.bit_eq_getLsbD, Block.bit_eq_getLsbD, hkeep]

theorem Block.bit_memWrite (b : Block) {p n : Nat} (v q : Nat) (h : p + n ≤ 128) :
    (b.memWrite p n v).bit q =
      if p ≤ q ∧ q < p + n then (v.testBit (q - p)).toNat else b.bit q := by
  induction n with
  | zero => rw [Block.memWrite, if_neg (by omega)]
  | succ n ih =>
    rw [Block.memWrite, Block.bit_setBit _ _ _ (by omega), ih (by omega)]
    by_cases hq : q = p + n
    · subst hq
      simp
    · have hiff : p ≤ q ∧ q < p + n ↔ p ≤ q ∧ q < p + (n + 1) := by omega
      simp only [hq, hiff, if_false]

/-- A field depends only on its own bits. -/
theorem Block.memRead_congr_bit {b c : Block} {p n : Nat}
    (h : ∀ k < n, b.bit (p + k) = c.bit (p + k)) : b.memRead p n = c.memRead p n := by
  induction n with
  | zero => rfl
  | succ n ih => rw [Block.memRead, Block.memRead, ih fun k hk => h k (by omega), h n (by omega)]

/-- A field whose bits are those of `v` reads the low bits of `v`. -/
theorem Block.memRead_eq_mod {b : Block} {p n v : Nat}
    (h : ∀ k < n, b.bit (p + k) = (v.testBit k).toNat) : b.memRead p n = v % 2 ^ n := by
  induction n with
  | zero => rw [Block.memRead, pow_zero, Nat.mod_one]
  | succ n ih =>
    rw [Block.memRead, ih fun k hk => h k (by omega), h n (by omega), Nat.toNat_testBit,
      Nat.mod_pow_succ, Nat.mul_comm (2 ^ n)]

theorem Block.memRead_memWrite_same (b : Block) {p n : Nat} (v : Nat) (h : p + n ≤ 128) :
    (b.memWrite p n v).memRead p n = v % 2 ^ n :=
  Block.memRead_eq_mod fun k hk => by
    rw [b.bit_memWrite v _ h, if_pos (by omega), Nat.add_sub_cancel_left]

/-- A write above a field leaves it. -/
theorem Block.memRead_memWrite_above (b : Block) {p n q m : Nat} (v : Nat) (h : p + n ≤ 128)
    (hq : q + m ≤ p) : (b.memWrite p n v).memRead q m = b.memRead q m :=
  Block.memRead_congr_bit fun k hk => by rw [b.bit_memWrite v _ h, if_neg (by omega)]

/-! ### Packing (R312) -/

/-- The half of a block at byte offset `o` holds an encoding: endpoint bytes, then 3-bit indices. -/
def Block.HoldsEncoded (b : Block) (o : Nat) (x : Encoded) : Prop :=
  b.byte o = x.b0 ∧ b.byte (o + 1) = x.b1 ∧
    ∀ i < 16, b.memRead (8 * o + 16 + 3 * i) 3 = x.idx.getD i 0

section
variable {o : Nat}

/-- The index fields leave what lies below them. -/
theorem memRead_packIndices_below (b : Block) (xs : List Nat) {i q m : Nat}
    (h : 8 * o + 16 + 3 * (i + xs.length) ≤ 128) (hq : q + m ≤ 8 * o + 16 + 3 * i) :
    (packIndices b o xs i).memRead q m = b.memRead q m := by
  induction xs generalizing b i with
  | nil => rfl
  | cons x xs ih =>
    rw [List.length_cons] at h
    rw [packIndices, ih _ (by omega) (by omega), b.memRead_memWrite_above x (by omega) hq]

/-- Field `k` holds the index packed for it. -/
theorem memRead_packIndices (b : Block) (xs : List Nat) {i k : Nat}
    (h : 8 * o + 16 + 3 * (i + xs.length) ≤ 128) (hx : ∀ x ∈ xs, x < 8) (hik : i ≤ k)
    (hk : k < i + xs.length) :
    (packIndices b o xs i).memRead (8 * o + 16 + 3 * k) 3 = xs.getD (k - i) 0 := by
  induction xs generalizing b i with
  | nil => exact absurd hk (Nat.not_lt.mpr hik)
  | cons x xs ih =>
    obtain ⟨hx0, hxs⟩ := List.forall_mem_cons.mp hx
    rw [List.length_cons] at h hk
    obtain rfl | hlt := hik.eq_or_lt
    · rw [packIndices, memRead_packIndices_below _ xs (by omega) (by omega),
        b.memRead_memWrite_same x (by omega), Nat.sub_self, List.getD_cons_zero]
      exact Nat.mod_eq_of_lt hx0
    · rw [packIndices, ih _ (by omega) hxs hlt (by omega),
        ← Nat.sub_add_cancel (Nat.sub_pos_of_lt hlt), List.getD_cons_succ, Nat.sub_sub]

theorem holdsEncoded_packBc4 (b : Block) {x : Encoded} (ho : o ≤ 8) (hb0 : x.b0 < 256)
    (hb1 : x.b1 < 256) (hlen : x.idx.length = 16) (hidx : ∀ k ∈ x.idx, k < 8) :
    (packBc4 b o x).HoldsEncoded o x := by
  refine ⟨?first, ?second, fun i hi => ?index⟩
  case first =>
    rw [← Block.memRead_byte, packBc4, memRead_packIndices_below _ _ (by omega) (by omega),
      Block.memRead_memWrite_above _ _ (by omega) le_rfl,
      Block.memRead_memWrite_same _ _ (by omega)]
    exact Nat.mod_eq_of_lt hb0
  case second =>
    rw [← Block.memRead_byte, packBc4, memRead_packIndices_below _ _ (by omega) (by omega),
      Nat.mul_add, Block.memRead_memWrite_same _ _ (by omega)]
    exact Nat.mod_eq_of_lt hb1
  case index => exact memRead_packIndices _ x.idx (by omega) hidx (Nat.zero_le i) (by omega)

/-- What a half holds depends only on its eight bytes. -/
theorem Block.HoldsEncoded.congr {b c : Block} {x : Encoded} (h : c.HoldsEncoded o x)
    (hbytes : ∀ j, o ≤ j → j < o + 8 → b.byte j = c.byte j) : b.HoldsEncoded o x := by
  obtain ⟨h0, h1, hidx⟩ := h
  refine ⟨?first, ?second, fun i hi => ?index⟩
  case first => rw [hbytes o le_rfl (by omega), h0]
  case second => rw [hbytes (o + 1) (by omega) (by omega), h1]
  case index =>
    rw [← hidx i hi]
    exact Block.memRead_congr fun k hk => hbytes _ (by omega) (by omega)

end

/-! ### Encoding one half -/

theorem State.setBlkHalf_byte (s : State) (o : Nat) (b : Block) (j : Nat) :
    (s.setBlkHalf o b).blk.byte j = if o ≤ j ∧ j < o + 8 then b.byte j else s.blk.byte j := by
  by_cases hj : j < 16
  · simp only [Block.byte, State.setBlkHalf_blk, hj, getElem?_pos, Vector.getElem_ofFn,
      Option.getD_some, Fin.getElem_fin, apply_ite BitVec.toNat]
  · have hj := Nat.not_lt.mp hj
    rw [Block.byte_above _ hj, Block.byte_above _ hj, Block.byte_above _ hj, ite_self]

/-- Writing one half leaves what the other one holds. -/
theorem State.setBlkHalf_keeps_holdsEncoded {s : State} {o o' : Nat} {x : Encoded} (b : Block)
    (h : s.blk.HoldsEncoded o x) (hoff : o + 8 ≤ o') :
    (s.setBlkHalf o' b).blk.HoldsEncoded o x :=
  h.congr fun j _ hj => by rw [s.setBlkHalf_byte, if_neg (by omega)]

@[simp] theorem State.samples_length (s : State) (c : Channel) : (s.samples c).length = 16 := by
  simp [State.samples]

@[simp] theorem State.encodeHalf_samples (s : State) (o : Nat) (bias : Byte) (c d : Channel) :
    (s.encodeHalf o bias c).samples d = s.samples d := rfl

theorem State.encodeHalf_holdsEncoded (s : State) {o : Nat} (bias : Byte) (c : Channel)
    (ho : o ≤ 8) :
    (s.encodeHalf o bias c).blk.HoldsEncoded o (encodeBc4 (s.samples c) bias.toNat) := by
  obtain ⟨hb0, hb1, hidx⟩ := encodeBc4_bounds (s.samples c) bias.toNat
  refine (holdsEncoded_packBc4 s.blk ho hb0 hb1 (by simp) hidx).congr fun j hlo hhi => ?_
  rw [State.encodeHalf, State.setBlkHalf_byte, if_pos ⟨hlo, hhi⟩]

theorem State.encodeHalf_blk_outside (s : State) (o : Nat) (bias : Byte) (c : Channel) (j : Fin 16)
    (hj : ¬(o ≤ j.val ∧ j.val < o + 8)) : (s.encodeHalf o bias c).blk[j] = s.blk[j] := by
  simp [State.encodeHalf, hj]

theorem keepsAllButBlk_self (s : State) : KeepsAllButBlk s s := by
  simp [KeepsAllButBlk, KeepsHostSide]

theorem KeepsAllButBlk.encodeHalf {s t : State} (h : KeepsAllButBlk s t) (o : Nat) (bias : Byte)
    (c : Channel) : KeepsAllButBlk s (t.encodeHalf o bias c) := by
  simpa [KeepsAllButBlk, KeepsHostSide, State.encodeHalf] using h

/-- The end of a command writes only `POS` and `STAT` (R82 step 4). -/
theorem KeepsAllButBlk.setPos_complete {s t : State} (h : KeepsAllButBlk s t) (p : Nat) :
    KeepsAllButBlk s (t.setPos p).complete := h

/-! ### The two commands -/

/-- Settles O49: the half at byte 0 holds the encoding, and nothing is written above it. -/
theorem encBc4WritesTheEncodedHalf : Obligations.EncBc4WritesTheEncodedHalf := by
  unfold Obligations.EncBc4WritesTheEncodedHalf
  intro bias chan s
  obtain ⟨h0, h1, hidx⟩ := s.encodeHalf_holdsEncoded bias chan (Nat.zero_le 8)
  exact ⟨_, rfl, h0, h1, hidx, fun j hj => s.encodeHalf_blk_outside 0 bias chan j (by omega),
    ⟨rfl, rfl⟩, ((keepsAllButBlk_self s).encodeHalf 0 bias chan).setPos_complete 64⟩

/-- Settles O50: the second half is encoded from the same samples, and writing it leaves the
first. -/
theorem encBc5WritesBothHalves : Obligations.EncBc5WritesBothHalves := by
  unfold Obligations.EncBc5WritesBothHalves
  intro bias s
  have hred : ((s.encodeHalf 0 bias .r).encodeHalf 8 bias .g).blk.HoldsEncoded 0 _ :=
    State.setBlkHalf_keeps_holdsEncoded _ (s.encodeHalf_holdsEncoded bias .r (Nat.zero_le 8)) le_rfl
  have hgreen := (s.encodeHalf 0 bias .r).encodeHalf_holdsEncoded bias .g (le_refl 8)
  rw [State.encodeHalf_samples] at hgreen
  obtain ⟨hr0, hr1, hridx⟩ := hred
  obtain ⟨hg0, hg1, hgidx⟩ := hgreen
  exact ⟨_, rfl, hr0, hr1, hg0, hg1, fun i hi => ⟨hridx i hi, hgidx i hi⟩, ⟨rfl, rfl⟩,
    (((keepsAllButBlk_self s).encodeHalf 0 bias .r).encodeHalf 8 bias .g).setPos_complete 128⟩

end Sys2Proof.Machine

/-! SUPPORT. The two commands that touch status only (47_system.md R330, R331). -/

namespace Sys2Proof.Machine

/-- `NOP` is the end of a command without an error, and nothing before it (R82 step 4, R330). -/
theorem exec_nop (s : State) : exec .nop s = .next s.complete := rfl

/-- `CLRW` clears the sticky warning bits and then ends without an error (R331). -/
theorem exec_clrw (s : State) : exec .clrw s = .next { s with warn := 0 }.complete := rfl

/-- Settles O13: `NOP` only completes, and a command word written under `FATAL` is stored, not
run. -/
theorem nopClearsOnlyStat : Obligations.NopClearsOnlyStat := by
  unfold Obligations.NopClearsOnlyStat
  exact ⟨exec_nop, fun _ _ hbus hfatal => step_command_of_fatal hbus hfatal⟩

/-- Settles O14: the completion that follows the cleared warnings writes `STAT` only. -/
theorem clrwClearsWarnAndStat : Obligations.ClrwClearsWarnAndStat := by
  unfold Obligations.ClrwClearsWarnAndStat
  exact exec_clrw

end Sys2Proof.Machine

/-! SUPPORT. The error action (60_exceptions.md R346) register by register, and the reserved command
words (30_encoding.md R83, 60_exceptions.md R344). -/

namespace Sys2Proof.Machine

/-! ### Step 2 of the error action (R346) -/

section
variable (s : State) {o : ErrorOutput} {c : Cause}

theorem State.errorOutput_pixh_of_ne (ho : o ≠ .bc6h) : (s.errorOutput o c).pixh = s.pixh := by
  cases o with
  | bc6h => exact absurd rfl ho
  | bc7 | reserved => rfl
  | cursor => cases c <;> rfl

theorem State.errorOutput_pix8_of_ne (ho : o ≠ .bc7) : (s.errorOutput o c).pix8 = s.pix8 := by
  cases o with
  | bc7 => exact absurd rfl ho
  | bc6h | reserved => rfl
  | cursor => cases c <;> rfl

theorem State.errorOutput_cursor_of_ne (hc : c ≠ .contract) :
    s.errorOutput .cursor c = s.setVal 0 := if_neg hc

theorem State.errorOutput_val_of_keeps (h : o ≠ .cursor ∨ c = .contract) :
    (s.errorOutput o c).val = s.val := by
  cases o with
  | bc6h | bc7 | reserved => rfl
  | cursor =>
    obtain rfl := h.resolve_left (absurd rfl)
    rfl

end

/-! ### The whole error action -/

/-- The error action writes neither `CMD` nor the host's own lanes (R346). -/
theorem keepsHostSide_errorAction (s : State) (o : ErrorOutput) (c : Cause) (info pos : Nat) :
    KeepsHostSide s (s.errorAction o c info pos) :=
  ⟨s.errorAction_cmd o c info pos, s.errorAction_bus o c info pos, s.errorAction_rdata o c info pos⟩

/-- Settles O55: register by register, what the error action leaves there. At a named cause `warnWith`
computes to the bit of R30. -/
theorem errorActionEffects : Obligations.ErrorActionEffects := by
  unfold Obligations.ErrorActionEffects
  intro s o c info pos hpos t
  refine ⟨?walk, ?stat, ?pos, ?blk, ?host, ?contract, ?fatal, ?badMode, ?overrun, ?badIndex,
    ?badCmd, ?bc6h, ?pixh, ?bc7, ?pix8, ?cursor, ?val⟩
  case walk => exact fun _ write => s.finish_raise o c info pos write
  case stat => exact s.errorAction_stat o c info pos
  case pos => simp [t, Nat.mod_eq_of_lt hpos]
  case blk => exact s.errorAction_blk o c info pos
  case host => exact keepsHostSide_errorAction s o c info pos
  case contract =>
    rintro rfl
    exact ⟨s.errorAction_warn o .contract info pos, by simp [t]⟩
  case fatal =>
    intro hc
    simp [t, hc]
  case badMode | overrun | badIndex | badCmd =>
    rintro rfl
    exact s.errorAction_warn o _ info pos
  case bc6h =>
    rintro rfl i
    simp [t, bc6hErrorPixel]
  case pixh => exact s.errorOutput_pixh_of_ne
  case bc7 =>
    rintro rfl i
    simp [t, bc7ErrorPixel]
  case pix8 => exact s.errorOutput_pix8_of_ne
  case cursor =>
    rintro rfl hc
    simp [t, s.errorOutput_cursor_of_ne hc]
  case val => exact s.errorOutput_val_of_keeps

/-! ### Reserved command words (R83, R344) -/

/-- What makes a word reserved is what makes the decoder answer so (R83). -/
theorem decodeWord_of_isReservedWord {w : Word} (hw : isReservedWord w = true) :
    decodeWord w = .reservedCmd w := by
  obtain hhigh | hop : w.extractLsb' 21 11 ≠ 0 ∨ opField w ∉ opCodes := by
    simpa [isReservedWord, opField] using hw
  · exact if_pos hhigh
  · exact decodeWord_of_opField_not_mem hop

theorem warnWith_badCmd (w : Byte) : warnWith w .badCmd = w ||| 8 := rfl

/-- `BAD_CMD` writes `STAT` and `WARN[3]`; the cursor is written with its own value (R344). -/
theorem State.errorAction_reserved_badCmd (s : State) (w : Word) :
    s.errorAction .reserved .badCmd (opField w) s.pos.toNat =
      { s with
        stat := BitVec.ofNat 32 (w.toNat % 256 * 256 + 5)
        warn := s.warn ||| 8 } := by
  have hstat : statWord .badCmd (opField w) = BitVec.ofNat 32 (w.toNat % 256 * 256 + 5) := by
    rw [opField_eq]
    exact statWord_of_lt .badCmd (Nat.mod_lt _ (by decide))
  simp [State.errorAction, hstat, warnWith_badCmd, State.setPos]

theorem exec_reservedCmd (w : Word) (s : State) :
    exec (.reservedCmd w) s = .next
      { s with stat := BitVec.ofNat 32 (w.toNat % 256 * 256 + 5), warn := s.warn ||| 8 } := by
  rw [exec, execReservedCmd, s.errorAction_reserved_badCmd]

/-- Settles O15: the step of the host's write stores the word and runs the instruction it decodes to,
which is the reserved command. -/
theorem reservedCommandsRaiseBadCmd : Obligations.ReservedCommandsRaiseBadCmd := by
  unfold Obligations.ReservedCommandsRaiseBadCmd
  intro w s hw
  refine ⟨exec_reservedCmd w s, fun rest hbus hfatal => ?_⟩
  rw [step_command_of_not_fatal hbus hfatal, decodeWord_of_isReservedWord hw, exec_reservedCmd]

end Sys2Proof.Machine

/-! SUPPORT. Encoding and decoding are inverse (30_encoding.md R80 to R83, R100 to R105): a command word
through its bytes, and a layout row through the word of its command and its prefix byte. -/

namespace Sys2Proof

/-! ### The bytes of a word -/

/-- The four bytes of a word, put together again (20_memory.md R56). -/
theorem wordOfBytes_bytesOfWord (w : Word) :
    wordOfBytes (w.extractLsb' 0 8) (w.extractLsb' 8 8) (w.extractLsb' 16 8) (w.extractLsb' 24 8) =
      w := by
  have hlt := w.isLt
  apply BitVec.eq_of_toNat_eq
  simp only [wordOfBytes, BitVec.toNat_ofNat, BitVec.extractLsb'_toNat, Nat.shiftRight_eq_div_pow]
  omega

theorem decode_bytesOfWord (w : Word) : decode (bytesOfWord w) = .ok (decodeWord w) := by
  unfold bytesOfWord decode
  simp only [wordOfBytes_bytesOfWord]

/-- A prefix byte behind a command word refines the command to its layout row (R105). The row is taken as
that of any function, or the kernel would evaluate the decoder on the word. -/
theorem decode_bytesOfWord_prefix {w : Word} {p : Byte} {i : Instr}
    (h : layoutOf (decodeWord w) p = some i) : decode (bytesOfWord w ++ [p]) = .ok i := by
  obtain ⟨layout, hlayout⟩ : ∃ layout, layout = layoutOf := ⟨_, rfl⟩
  rw [← hlayout] at h
  rw [decode.eq_def, ← hlayout]
  simp only [bytesOfWord, List.cons_append, List.nil_append, wordOfBytes_bytesOfWord, h]

/-! ### The commands' own words -/

@[simp] theorem decodeWord_bc6hWord (sgn : Bool) : decodeWord (bc6hWord sgn) = .decBc6h sgn := by
  cases sgn <;> decide

@[simp] theorem decodeWord_bc7Word : decodeWord bc7Word = .decBc7 := by decide

/-! ### The encoding of an instruction -/

section
variable {i : Instr}

/-- An instruction encoded as a command word alone is read back from that word. -/
theorem decode_encode_of_word {w : Word} (hparts : encodeParts i = (w, none))
    (hword : decodeWord w = i) : decode (encode i) = .ok i := by
  rw [encode, hparts, Option.toList_none, List.append_nil, decode_bytesOfWord, hword]

/-- An instruction encoded with a prefix byte is read back from the row the prefix selects. -/
theorem decode_encode_of_prefix {w : Word} {p : Byte} (hparts : encodeParts i = (w, some p))
    (hrow : layoutOf (decodeWord w) p = some i) : decode (encode i) = .ok i := by
  rw [encode, hparts]
  exact decode_bytesOfWord_prefix hrow

theorem decode_encode_of_bc6hPrefix {sgn : Bool} {p : Byte}
    (hparts : encodeParts i = (bc6hWord sgn, some p)) (hrow : bc6hLayout sgn p = i) :
    decode (encode i) = .ok i :=
  decode_encode_of_prefix hparts (by rw [decodeWord_bc6hWord, layoutOf, hrow])

theorem decode_encode_of_bc7Prefix {p : Byte} (hparts : encodeParts i = (bc7Word, some p))
    (hrow : bc7Layout p = i) : decode (encode i) = .ok i :=
  decode_encode_of_prefix hparts (by rw [decodeWord_bc7Word, layoutOf, hrow])

end

/-- Settles O2: a command is read back from the fields of its word, a layout row from its prefix. -/
theorem decodingAnEncodingGivesTheInstruction :
    Obligations.DecodingAnEncodingGivesTheInstruction := by
  unfold Obligations.DecodingAnEncodingGivesTheInstruction
  intro i hi
  cases i
  case nop | clrw | getbit | getbits | decBc1 | decBc2 | decBc3 | decBc4 | decBc5 | encBc4 | encBc5 =>
    exact decode_encode_of_word rfl (by simp [decodeWord, commandWord_fields])
  case decBc6h sgn => exact decode_encode_of_word rfl (decodeWord_bc6hWord sgn)
  case decBc7 => exact decode_encode_of_word rfl decodeWord_bc7Word
  case reservedCmd w => exact decode_encode_of_word rfl (Machine.decodeWord_of_isReservedWord hi)
  case bc7Mode0 | bc7Mode1 | bc7Mode2 | bc7Mode3 | bc7Mode4 | bc7Mode5 | bc7Mode6 | bc7Mode7
      | bc7Reserved =>
    exact decode_encode_of_bc7Prefix rfl (by decide)
  -- the eighteen BC6H rows
  all_goals exact decode_encode_of_bc6hPrefix rfl rfl

end Sys2Proof

/-! SUPPORT. The block as one little-endian integer (20_memory.md R52 to R54), and the values that
the bit cursor gives (40_bitcursor.md R120 to R125). -/

namespace Sys2Proof.Machine

/-! ### The block as an integer (R54) -/

/-- A field of whole bytes is the little-endian number of its bytes. -/
theorem Block.memRead_bytes (b : Block) (j n : Nat) :
    b.memRead (8 * j) (8 * n) = (List.range' j n).foldr (fun k v => b.byte k + 256 * v) 0 := by
  induction n generalizing j with
  | zero => rfl
  | succ n ih =>
    rw [show 8 * (n + 1) = 8 + 8 * n by omega, b.memRead_add, b.memRead_byte,
      show 8 * j + 8 = 8 * (j + 1) by omega, ih, List.range'_succ, List.foldr_cons]
    rfl

theorem Block.toInt_eq_memRead (b : Block) : b.toInt = b.memRead 0 128 := by
  have hbytes := b.memRead_bytes 0 16
  rw [Nat.mul_zero, show 8 * 16 = 128 from rfl] at hbytes
  rw [Block.toInt, List.range_eq_range', hbytes]

/-- A little-endian number from byte `j` on is the sum of its bytes at their places. -/
theorem Block.foldr_bytes_eq_sum (b : Block) (j n : Nat) :
    (List.range' j n).foldr (fun k v => b.byte k + 256 * v) 0 * 2 ^ (8 * j) =
      ((List.range' j n).map fun k => b.byte k * 2 ^ (8 * k)).sum := by
  induction n generalizing j with
  | zero => exact Nat.zero_mul _
  | succ n ih =>
    rw [List.range'_succ, List.foldr_cons, List.map_cons, List.sum_cons, ← ih, Nat.mul_add 8 j 1,
      pow_add]
    ring

theorem Block.toInt_eq_sum (b : Block) :
    b.toInt = ((List.range 16).map fun j => b.byte j * 2 ^ (8 * j)).sum := by
  rw [Block.toInt, List.range_eq_range', ← b.foldr_bytes_eq_sum 0 16, Nat.mul_zero, pow_zero,
    Nat.mul_one]

/-- A field is the slice of the block's integer at its bits. -/
theorem Block.memRead_eq_slice (b : Block) {p n : Nat} (h : p + n ≤ 128) :
    b.memRead p n = b.toInt / 2 ^ p % 2 ^ n := by
  obtain ⟨r, hr⟩ := Nat.exists_eq_add_of_le h
  have hlow := b.memRead_lt 0 p
  have hfield := b.memRead_lt p n
  rw [b.toInt_eq_memRead, hr, Nat.add_assoc, b.memRead_add, Nat.zero_add, b.memRead_add,
    Nat.add_mul_div_left _ _ (Nat.two_pow_pos p), Nat.div_eq_of_lt hlow, Nat.zero_add,
    Nat.add_mul_mod_self_left, Nat.mod_eq_of_lt hfield]

/-- Settles O18: the integer is the field of all 128 bits, of which every field is a slice. -/
theorem fieldReadsAreSlicesOfTheLittleEndianBlock :
    Obligations.FieldReadsAreSlicesOfTheLittleEndianBlock := by
  unfold Obligations.FieldReadsAreSlicesOfTheLittleEndianBlock
  exact fun b => ⟨b.toInt_eq_sum, fun p n h => b.memRead_eq_slice h⟩

/-- Settles O19: a write sets the field's bits one by one, so the field reads back what was written. -/
theorem fieldWritesChangeExactlyTheFieldsBits :
    Obligations.FieldWritesChangeExactlyTheFieldsBits := by
  unfold Obligations.FieldWritesChangeExactlyTheFieldsBits
  intro b p n v h
  refine ⟨fun q _ => ?_, b.memRead_memWrite_same v h⟩
  rw [b.bit_memWrite v q h, Nat.toNat_testBit]

/-! ### `GETBITS` (R121, R125) -/

theorem cursorLimit_le (w64 : Bool) : cursorLimit w64 ≤ 128 := by cases w64 <;> decide

/-- `CONTRACT` at the cursor's own position: `STAT` and `FATAL`; `VAL`, `POS` and `WARN` stay. -/
theorem State.errorAction_cursor_contract (s : State) {n : Nat} (hn : n < 256) :
    s.errorAction .cursor .contract n s.pos.toNat =
      { s with stat := BitVec.ofNat 32 (n * 256 + 4), fatal := true } := by
  have hstat : statWord .contract n = BitVec.ofNat 32 (n * 256 + 4) := statWord_of_lt .contract hn
  simp [State.errorAction, hstat, State.setPos, warnWith, Cause.warnBit]

section
variable {n : Byte} (w64 : Bool) (s : State)

/-- No bits are read: the cursor may stand anywhere. -/
theorem exec_getbits_zero (hn : n.toNat = 0) :
    exec (.getbits n w64) s = .next ((s.setVal 0).setPos s.pos.toNat).complete := by
  rw [exec, execGetbits, hn, getBits_zero, State.finish_ok]

theorem exec_getbits_of_overruns (h0 : 1 ≤ n.toNat) (h8 : n.toNat ≤ 8)
    (h : s.pos.toNat + n.toNat > cursorLimit w64) :
    exec (.getbits n w64) s =
      .next (s.errorAction .cursor .overrun s.pos.toNat s.pos.toNat) := by
  rw [exec, execGetbits, getBits_overrun _ h8 h0 h, State.finish_raise]

theorem exec_getbits_of_fits (h8 : n.toNat ≤ 8) (h : s.pos.toNat + n.toNat ≤ cursorLimit w64) :
    exec (.getbits n w64) s =
      .next (((s.setVal (s.blk.memRead s.pos.toNat n.toNat)).setPos
        (s.pos.toNat + n.toNat)).complete) := by
  rw [exec, execGetbits, getBits_ok _ h8 h, State.finish_ok]

end

/-- Settles O17: the four cases of `getBits`, in its order. -/
theorem getbitsReadsAFieldOrRaises : Obligations.GetbitsReadsAFieldOrRaises := by
  unfold Obligations.GetbitsReadsAFieldOrRaises
  intro n w64 s
  refine ⟨?contract, ?none, ?overruns, ?fits⟩
  case contract =>
    intro hn
    rw [exec_getbits_contract s w64 hn, s.errorAction_cursor_contract n.isLt]
  case none =>
    intro hn
    rw [exec_getbits_zero w64 s hn]
    simp [State.setVal, State.setPos, State.complete]
  case overruns =>
    intro h0 h8 h
    rw [exec_getbits_of_overruns w64 s h0 h8 h, State.errorAction_cursor_overrun]
  case fits =>
    intro _ h8 h
    rw [exec_getbits_of_fits w64 s h8 h, s.blk.memRead_eq_slice (h.trans (cursorLimit_le w64))]
    rfl

/-! ### Sequences of cursor reads -/

/-- A field is the sum of its bits. -/
theorem Block.memRead_eq_sum (b : Block) (p n : Nat) :
    b.memRead p n = ((List.range n).map fun k => b.bit (p + k) * 2 ^ k).sum := by
  induction n with
  | zero => rfl
  | succ n ih => rw [Block.memRead, ih, List.range_succ, List.map_append, List.sum_append]; simp

theorem readBits_eq (b : Block) {L : Nat} (n pos : Nat) (h : pos + n ≤ L) :
    readBits b L n pos = .ok ((List.range n).map fun k => b.bit (pos + k)) (pos + n) := by
  induction n generalizing pos with
  | zero => rfl
  | succ n ih =>
    rw [readBits, getBit_ok b (by omega), Walk.bind_ok, ih (pos + 1) (by omega), Walk.bind_ok,
      List.range_succ_eq_map, List.map_cons, List.map_map]
    simp only [Function.comp_def, Nat.add_succ, Nat.succ_add, Nat.add_zero]

/-- The values of fields of the given widths, one behind the other from `pos` on. -/
def Block.fields (b : Block) : (ns : List Nat) → (pos : Nat) → List Nat
  | [], _ => []
  | n :: ns, pos => b.memRead pos n :: b.fields ns (pos + n)

@[simp] theorem Block.fields_nil (b : Block) (pos : Nat) : b.fields [] pos = [] := rfl

@[simp] theorem Block.fields_cons (b : Block) (n : Nat) (ns : List Nat) (pos : Nat) :
    b.fields (n :: ns) pos = b.memRead pos n :: b.fields ns (pos + n) := rfl

@[simp] theorem Block.fields_length (b : Block) (ns : List Nat) (pos : Nat) :
    (b.fields ns pos).length = ns.length := by
  induction ns generalizing pos with
  | nil => rfl
  | cons n ns ih => simp [ih]

/-- Field `i` stands where the widths before it end. -/
theorem Block.fields_getD (b : Block) (ns : List Nat) (pos : Nat) {i : Nat} (hi : i < ns.length) :
    (b.fields ns pos).getD i 0 = b.memRead (pos + (ns.take i).sum) (ns.getD i 0) := by
  induction ns generalizing pos i with
  | nil => exact absurd hi (Nat.not_lt_zero i)
  | cons n ns ih =>
    cases i with
    | zero => simp
    | succ i => simpa [Nat.add_assoc] using ih (pos + n) (Nat.lt_of_succ_lt_succ hi)

/-- The fields, each shifted to its place, are the field they fill. -/
theorem Block.sum_fields (b : Block) (ns : List Nat) (pos : Nat) :
    ((List.range ns.length).map fun i =>
      (b.fields ns pos).getD i 0 * 2 ^ (ns.take i).sum).sum = b.memRead pos ns.sum := by
  induction ns generalizing pos with
  | nil => rfl
  | cons n ns ih =>
    rw [List.sum_cons, b.memRead_add, ← ih, List.length_cons, List.range_succ_eq_map,
      List.map_cons, List.map_map, List.sum_cons, ← List.sum_map_mul_left]
    simp [Function.comp_def, pow_add, Nat.mul_left_comm]

/-- Fields that fit are read, each with its value. -/
theorem readFields_eq (b : Block) {ns : List Nat} {pos : Nat} (h8 : ∀ n ∈ ns, n ≤ 8)
    (h : pos + ns.sum ≤ 128) : readFields b ns pos = .ok (b.fields ns pos) (pos + ns.sum) := by
  induction ns generalizing pos with
  | nil => rfl
  | cons n ns ih =>
    obtain ⟨hn, hns⟩ := List.forall_mem_cons.mp h8
    rw [List.sum_cons] at h
    rw [readFields, getBits_ok b hn (by omega), Walk.bind_ok, ih hns (by omega), Walk.bind_ok,
      List.sum_cons, Nat.add_assoc, Block.fields_cons]

/-- Settles O20: single bits and fields alike are read at the bits where those before them end. -/
theorem getBitsComposesFromSingleBitsAndRebuildsTheBlock :
    Obligations.GetBitsComposesFromSingleBitsAndRebuildsTheBlock := by
  unfold Obligations.GetBitsComposesFromSingleBitsAndRebuildsTheBlock
  refine ⟨?bits, ?block⟩
  case bits =>
    intro b L n pos _ _ h8 h
    refine ⟨_, readBits_eq b n pos h, by simp, ?_⟩
    rw [getBits_ok b h8 h, b.memRead_eq_sum]
    congr 2
    refine List.map_congr_left fun k hk => ?_
    simp [List.mem_range.mp hk]
  case block =>
    intro b ns h8 hsum
    refine ⟨b.fields ns 0, ?read, b.fields_length ns 0, fun i hi => ?value, ?rebuild⟩
    case read => rw [readFields_eq b h8 (by omega), hsum]
    case value =>
      have hsplit : (ns.take i).sum + ns.getD i 0 ≤ ns.sum := by
        rw [← List.sum_take_add_sum_drop ns (i + 1), List.sum_take_succ ns i hi,
          List.getD_eq_getElem _ _ hi]
        exact Nat.le_add_right _ _
      rw [b.fields_getD ns 0 hi, b.memRead_eq_slice (by omega), Nat.zero_add]
    case rebuild => rw [b.sum_fields, hsum, b.toInt_eq_memRead]

end Sys2Proof.Machine

/-! SUPPORT. Palette math (41_palette_math.md): the unquantiser of BC7, the flooring divisions of the BC4
palette, and the weighted blend. -/

namespace Sys2Proof.Machine

/-! ### The BC7 unquantiser (R148) -/

theorem unq7_lt (c prec : Nat) : unq7 c prec < 256 :=
  Nat.or_lt_two_pow (n := 8) (Nat.mod_lt _ (by decide))
    (Nat.lt_of_le_of_lt (Nat.div_le_self _ _) (Nat.mod_lt _ (by decide)))

section
variable {c prec : Nat} (hprec : prec ≤ 8) (hc : c < 2 ^ prec)
include hprec hc

/-- A component moved to the top of a byte stays in the byte. -/
theorem shiftLeft_lt_byte : c <<< (8 - prec) < 256 := by
  change _ < 2 ^ 8
  rw [Nat.shiftLeft_eq, ← Nat.add_sub_of_le hprec, pow_add, Nat.add_sub_cancel_left]
  exact Nat.mul_lt_mul_of_pos_right hc (Nat.two_pow_pos _)

theorem unq7_eq_shift : unq7 c prec = (c <<< (8 - prec) ||| c <<< (8 - prec) >>> prec) := by
  have hlt := shiftLeft_lt_byte hprec hc
  rw [Nat.shiftRight_eq_div_pow, unq7, ← Nat.shiftLeft_eq, Nat.mod_eq_of_lt hlt]

/-- The component is read back from the top bits: the bits copied below it are shifted out. -/
theorem unq7_div : unq7 c prec / 2 ^ (8 - prec) = c := by
  have hout : c <<< (8 - prec) >>> prec >>> (8 - prec) = 0 := by
    rw [← Nat.shiftRight_add, Nat.add_sub_of_le hprec]
    exact Nat.shiftRight_eq_zero _ _ (shiftLeft_lt_byte hprec hc)
  rw [unq7_eq_shift hprec hc, ← Nat.shiftRight_eq_div_pow, Nat.shiftRight_or_distrib, hout,
    Nat.or_zero, Nat.shiftLeft_shiftRight]

end

theorem unq7_zero (prec : Nat) : unq7 0 prec = 0 := by simp [unq7]

theorem unq7_eight {c : Nat} (hc : c < 256) : unq7 c 8 = c := by
  simpa using unq7_div (prec := 8) le_rfl hc

/-- Settles O23: replication fills the bits below the component with its own top bits. -/
theorem bc7UnquantiserReplicatesTopBits : Obligations.Bc7UnquantiserReplicatesTopBits := by
  unfold Obligations.Bc7UnquantiserReplicatesTopBits
  refine ⟨fun prec _ h8 => ⟨fun c hc => ?component, unq7_zero prec, fun h4 => ?maximum⟩,
    fun c hc => unq7_eight hc, by decide, by decide, by decide, by decide,
    fun x _ => exp5_eq_shift x, fun x _ => exp6_eq_shift x, fun a ha => ?alpha⟩
  case component => exact ⟨unq7_eq_shift h8 hc, unq7_lt c prec, unq7_div h8 hc⟩
  case maximum => interval_cases prec <;> decide
  case alpha => rw [exp4_eq ha, Nat.mul_comm]

/-! ### The BC4 palette (R145, R146) -/

/-- The product is exact: `7 * 2341` is `2 ^ 14 + 3`, too little above to reach the next quotient. -/
theorem div7_eq {x : Nat} (hx : x ≤ 7 * 255) : div7 x = x / 7 := by
  rw [div7]
  omega

/-- The same for `5 * 1639`, which is `2 ^ 13 + 3`. -/
theorem div5_eq {x : Nat} (hx : x ≤ 5 * 255) : div5 x = x / 5 := by
  rw [div5]
  omega

section
variable {e0 e1 : Nat}

theorem pal8_of_gt (h0 : e0 ≤ 255) (h : e0 > e1) :
    pal8 e0 e1 = [e0, e1, (6 * e0 + e1) / 7, (5 * e0 + 2 * e1) / 7, (4 * e0 + 3 * e1) / 7,
      (3 * e0 + 4 * e1) / 7, (2 * e0 + 5 * e1) / 7, (e0 + 6 * e1) / 7] := by
  have hblend : ∀ k ∈ [1, 2, 3, 4, 5, 6],
      div7 ((7 - k) * e0 + k * e1 + bc4Round7) = ((7 - k) * e0 + k * e1) / 7 := by
    simp only [List.forall_mem_cons, bc4Round7, Nat.reduceSub]
    refine ⟨?_, ?_, ?_, ?_, ?_, ?_, by simp⟩ <;> exact div7_eq (by omega)
  rw [pal8, if_pos h, List.map_congr_left hblend]
  simp

theorem pal8_of_le (h1 : e1 ≤ 255) (h : e0 ≤ e1) :
    pal8 e0 e1 = [e0, e1, (4 * e0 + e1) / 5, (3 * e0 + 2 * e1) / 5, (2 * e0 + 3 * e1) / 5,
      (e0 + 4 * e1) / 5, 0, 255] := by
  have hblend : ∀ k ∈ [1, 2, 3, 4],
      div5 ((5 - k) * e0 + k * e1 + bc4Round5) = ((5 - k) * e0 + k * e1) / 5 := by
    simp only [List.forall_mem_cons, bc4Round5, Nat.reduceSub]
    refine ⟨?_, ?_, ?_, ?_, by simp⟩ <;> exact div5_eq (by omega)
  rw [pal8, if_neg (Nat.not_lt.mpr h), List.map_congr_left hblend]
  simp

theorem pal8_le (h0 : e0 ≤ 255) (h1 : e1 ≤ 255) {x : Nat} (hx : x ∈ pal8 e0 e1) : x ≤ 255 := by
  by_cases h : e0 > e1
  · simp only [pal8_of_gt h0 h, List.mem_cons, List.not_mem_nil, or_false] at hx
    omega
  · simp only [pal8_of_le h1 (Nat.not_lt.mp h), List.mem_cons, List.not_mem_nil, or_false] at hx
    omega

end

/-- Settles O21: in either branch the palette is the printed list of blends, ordered as their weights. -/
theorem bc4PaletteIsTheFlooredBlend : Obligations.Bc4PaletteIsTheFlooredBlend := by
  unfold Obligations.Bc4PaletteIsTheFlooredBlend
  intro e0 e1 h0 h1 P
  refine ⟨pal8_length e0 e1, fun x hx => pal8_le h0 h1 hx, ?first, ?second, fun h => ?gt, fun h => ?le⟩
  case first => simp only [P, pal8]; split <;> rfl
  case second => simp only [P, pal8]; split <;> rfl
  case gt =>
    simp only [P, pal8_of_gt h0 h]
    refine ⟨fun k hk hk' => ?blend, ?start, fun k hk hk' => ?order, ?stop⟩
    case blend => interval_cases k <;> simp
    case start => simp; omega
    case order => interval_cases k <;> simp <;> omega
    case stop => simp; omega
  case le =>
    simp only [P, pal8_of_le h1 h]
    refine ⟨fun k hk hk' => ?blend, rfl, rfl, ?start, fun k hk hk' => ?order, ?stop⟩
    case blend => interval_cases k <;> simp
    case start => simp; omega
    case order => interval_cases k <;> simp <;> omega
    case stop => simp; omega

/-! ### Interpolation (R140 to R143) -/

theorem weight_le (prec : IndexPrec) (idx : Nat) : weight prec idx ≤ 64 := by
  have hall : ∀ w ∈ weights prec, w ≤ 64 := by cases prec <;> decide
  rw [weight]
  by_cases h : idx < (weights prec).length
  · rw [List.getD_eq_getElem _ _ h]
    exact hall _ (List.getElem_mem h)
  · rw [List.getD_eq_default _ _ (Nat.not_lt.mp h)]
    exact Nat.zero_le 64

@[simp] theorem weight_zero (prec : IndexPrec) : weight prec 0 = 0 := by cases prec <;> rfl

@[simp] theorem weight_last (prec : IndexPrec) : weight prec (2 ^ prec.bits - 1) = 64 := by
  cases prec <;> rfl

/-- A weighted sum lies between 64 times the lesser and 64 times the greater of its terms; rounding to
nearest keeps that. -/
theorem min_le_blend_le_max {a b w : Int} (h0 : 0 ≤ w) (h64 : w ≤ 64) :
    min a b ≤ (a * (64 - w) + b * w + 32) / 64 ∧ (a * (64 - w) + b * w + 32) / 64 ≤ max a b := by
  have h64 : 0 ≤ 64 - w := Int.sub_nonneg.mpr h64
  have hmin : min a b * 64 ≤ a * (64 - w) + b * w := by
    calc min a b * 64 = min a b * (64 - w) + min a b * w := by ring
      _ ≤ _ := add_le_add (mul_le_mul_of_nonneg_right (min_le_left a b) h64)
        (mul_le_mul_of_nonneg_right (min_le_right a b) h0)
  have hmax : a * (64 - w) + b * w ≤ max a b * 64 := by
    calc a * (64 - w) + b * w ≤ max a b * (64 - w) + max a b * w :=
          add_le_add (mul_le_mul_of_nonneg_right (le_max_left a b) h64)
            (mul_le_mul_of_nonneg_right (le_max_right a b) h0)
      _ = _ := by ring
  generalize a * (64 - w) + b * w = blend at hmin hmax ⊢
  omega

theorem interp_between (a b : Int) (idx : Nat) (prec : IndexPrec) :
    min a b ≤ interp a b idx prec ∧ interp a b idx prec ≤ max a b :=
  min_le_blend_le_max (Int.natCast_nonneg _) (by exact_mod_cast weight_le prec idx)

theorem interp_zero (a b : Int) (prec : IndexPrec) : interp a b 0 prec = a := by
  rw [interp, weight_zero]
  omega

theorem interp_last (a b : Int) (prec : IndexPrec) : interp a b (2 ^ prec.bits - 1) prec = b := by
  rw [interp, weight_last]
  omega

@[simp] theorem interp_self (a : Int) (idx : Nat) (prec : IndexPrec) : interp a a idx prec = a := by
  obtain ⟨hmin, hmax⟩ := interp_between a a idx prec
  rw [min_self] at hmin
  rw [max_self] at hmax
  exact le_antisymm hmax hmin

/-- Settles O22: the weights are the printed ones, at most 64, first 0 and last 64. -/
theorem interpolationStaysBetweenItsEndpoints : Obligations.InterpolationStaysBetweenItsEndpoints := by
  unfold Obligations.InterpolationStaysBetweenItsEndpoints
  intro a b idx prec hidx printed w
  have hw : w = weight prec idx := by
    revert idx
    cases prec <;> decide
  obtain ⟨hmin, hmax⟩ := interp_between a b idx prec
  refine ⟨?floor, hmin, hmax, interp_zero a b prec, interp_last a b prec, interp_self a idx prec⟩
  case floor => rw [hw, Int.fdiv_eq_ediv_of_nonneg _ (by decide), interp]

end Sys2Proof.Machine

/-! SUPPORT. The partition tables (42_partition_tables.md R175 to R178), and the index planes read by
them (44_bc6h_decode.md R236, 45_bc7_decode.md R272, R273). -/

namespace Sys2Proof.Machine

/-! ### The tables -/

theorem regionOf_bc6h_wellFormed : ∀ shape < 32, (∀ i < 16, regionOf .bc6h .one shape i < 2) ∧
    (∃ i < 16, regionOf .bc6h .one shape i = 0) ∧ (∃ i < 16, regionOf .bc6h .one shape i = 1) ∧
    regionOf .bc6h .one shape 0 = 0 := by decide

theorem regionOf_bc7_one_wellFormed : ∀ shape < 64, (∀ i < 16, regionOf .bc7 .one shape i < 2) ∧
    (∃ i < 16, regionOf .bc7 .one shape i = 0) ∧ (∃ i < 16, regionOf .bc7 .one shape i = 1) ∧
    regionOf .bc7 .one shape 0 = 0 := by decide

theorem regionOf_bc7_two_wellFormed : ∀ shape < 64, (∀ i < 16, regionOf .bc7 .two shape i < 3) ∧
    (∃ i < 16, regionOf .bc7 .two shape i = 0) ∧ (∃ i < 16, regionOf .bc7 .two shape i = 1) ∧
    (∃ i < 16, regionOf .bc7 .two shape i = 2) ∧ regionOf .bc7 .two shape 0 = 0 := by decide

/-- The fix-up pixel of region 1, with two regions, is another pixel than 0 and lies in its region. -/
theorem f2_wellFormed : ∀ shape < 64,
    f2.getD shape 0 < 16 ∧ f2.getD shape 0 ≠ 0 ∧
      regionOf .bc7 .one shape (f2.getD shape 0) = 1 := by decide

theorem f3_wellFormed : ∀ shape < 64,
    f3a.getD shape 0 < 16 ∧ f3b.getD shape 0 < 16 ∧ f3a.getD shape 0 ≠ 0 ∧ f3b.getD shape 0 ≠ 0 ∧
      f3a.getD shape 0 ≠ f3b.getD shape 0 ∧ regionOf .bc7 .two shape (f3a.getD shape 0) = 1 ∧
      regionOf .bc7 .two shape (f3b.getD shape 0) = 2 := by decide

/-- The BC6H rows are the first BC7 rows (R172). -/
theorem regionOf_bc6h_eq_bc7 {shape : Nat} (h : shape < 32) (t : Tier) (i : Nat) :
    regionOf .bc6h t shape i = regionOf .bc7 t shape i := by
  cases t with
  | zero | two => rfl
  | one =>
    have hrow : shape2Bc6h.getD shape 0 = shape2Bc7.getD shape 0 := by
      simp only [shape2Bc6h, List.getD_eq_getElem?_getD, List.getElem?_take, if_pos h]
    simp only [regionOf, hrow]

/-- Settles O24: row by row; the fix-up table is checked against the BC7 shapes, which the BC6H shapes
are a part of. -/
theorem partitionTablesAreWellFormed : Obligations.PartitionTablesAreWellFormed := by
  unfold Obligations.PartitionTablesAreWellFormed
  refine ⟨regionOf_bc6h_wellFormed, regionOf_bc7_one_wellFormed, regionOf_bc7_two_wellFormed,
    fun _ _ => rfl, fun shape h => ?bc6h, fun shape h => ⟨?two, ?three⟩⟩
  case bc6h =>
    obtain ⟨-, -, hregion⟩ := f2_wellFormed shape (h.trans (by decide))
    rw [regionOf_bc6h_eq_bc7 h]
    exact hregion
  case two => exact ⟨_, rfl, f2_wellFormed shape h⟩
  case three => exact ⟨_, _, rfl, f3_wellFormed shape h⟩

/-- Each region has one fix-up pixel (R178). -/
theorem length_filter_isFixup (t : Tier) : ∀ shape < 64,
    ((List.range' 0 16).filter (isFixup t shape)).length = t.toNat + 1 := by
  cases t <;> decide

/-! ### Index planes -/

/-- The widths of the index fields of the `n` pixels from `i` on. -/
def indexWidths (ip : Nat) (short : Nat → Bool) (n i : Nat) : List Nat :=
  (List.range' i n).map (indexWidth ip short)

@[simp] theorem indexWidths_length (ip : Nat) (short : Nat → Bool) (n i : Nat) :
    (indexWidths ip short n i).length = n := by simp [indexWidths]

theorem indexWidths_succ (ip : Nat) (short : Nat → Bool) (n i : Nat) :
    indexWidths ip short (n + 1) i = indexWidth ip short i :: indexWidths ip short n (i + 1) := by
  rw [indexWidths, List.range'_succ, List.map_cons, indexWidths]

theorem indexWidth_le (ip : Nat) (short : Nat → Bool) (i : Nat) : indexWidth ip short i ≤ ip := by
  unfold indexWidth
  split <;> omega

theorem sum_indexWidths (ip : Nat) (short : Nat → Bool) (n i : Nat) :
    (indexWidths ip short n i).sum = planeWidth ip short n i := by
  induction n generalizing i with
  | zero => rfl
  | succ n ih => rw [indexWidths_succ, List.sum_cons, ih, planeWidth]

/-- An index plane is one bit narrower for each pixel of which `short` holds. -/
theorem planeWidth_add_length_filter {ip : Nat} (hip : 1 ≤ ip) (short : Nat → Bool) (n i : Nat) :
    planeWidth ip short n i + ((List.range' i n).filter short).length = n * ip := by
  induction n generalizing i with
  | zero => exact (Nat.zero_mul ip).symm
  | succ n ih =>
    have hrest := ih (i + 1)
    rw [planeWidth, List.range'_succ, List.filter_cons, Nat.succ_mul]
    cases hshort : short i <;> simp [indexWidth, hshort] <;> omega

theorem IndexPrec.one_le_bits (ip : IndexPrec) : 1 ≤ ip.bits := by cases ip <;> decide

theorem IndexPrec.bits_le (ip : IndexPrec) : ip.bits ≤ 8 := by cases ip <;> decide

/-- A primary plane is one bit narrower for each region (R178). -/
theorem planeWidth_isFixup (ip : IndexPrec) (t : Tier) {shape : Nat} (h : shape < 64) :
    planeWidth ip.bits (isFixup t shape) 16 0 + (t.toNat + 1) = 16 * ip.bits := by
  rw [← length_filter_isFixup t shape h]
  exact planeWidth_add_length_filter ip.one_le_bits _ 16 0

/-- An index plane that fits is the fields of its widths. -/
theorem readIndices_eq (b : Block) {ip : Nat} (short : Nat → Bool) (n i : Nat) {pos : Nat}
    (hip : ip ≤ 8) (h : pos + planeWidth ip short n i ≤ 128) :
    readIndices b ip short n i pos =
      .ok (b.fields (indexWidths ip short n i) pos) (pos + planeWidth ip short n i) := by
  induction n generalizing i pos with
  | zero => rfl
  | succ n ih =>
    rw [planeWidth] at h ⊢
    have hw := indexWidth_le ip short i
    have hfits : ¬ pos + indexWidth ip short i > 128 := by omega
    have hidx : ¬ b.memRead pos (indexWidth ip short i) ≥ 2 ^ ip := Nat.not_le.mpr
      ((b.memRead_lt _ _).trans_le (Nat.pow_le_pow_right (by decide) hw))
    rw [readIndices, show (if short i then ip - 1 else ip) = indexWidth ip short i from rfl,
      if_neg hfits, getBits_ok b (by omega) (by omega), Walk.bind_ok, if_neg hidx,
      ih (i + 1) (by omega), Walk.bind_ok, indexWidths_succ, Block.fields_cons, Nat.add_assoc]

/-- The indices of a plane are below `2 ^ ip`. -/
theorem lt_of_mem_fields_indexWidths (b : Block) {ip : Nat} {short : Nat → Bool} {n i pos x : Nat}
    (hx : x ∈ b.fields (indexWidths ip short n i) pos) : x < 2 ^ ip := by
  induction n generalizing i pos with
  | zero => exact absurd hx List.not_mem_nil
  | succ n ih =>
    rw [indexWidths_succ, Block.fields_cons, List.mem_cons] at hx
    obtain rfl | hx := hx
    · exact (b.memRead_lt _ _).trans_le (Nat.pow_le_pow_right (by decide) (indexWidth_le ip short i))
    · exact ih hx

theorem indexWidths_getD (ip : Nat) (short : Nat → Bool) {n i k : Nat} (hk : k < n) :
    (indexWidths ip short n i).getD k 0 = indexWidth ip short (i + k) := by
  rw [List.getD_eq_getElem _ _ (by simpa using hk)]
  simp [indexWidths]

theorem take_indexWidths (ip : Nat) (short : Nat → Bool) {n i k : Nat} (hk : k ≤ n) :
    (indexWidths ip short n i).take k = indexWidths ip short k i := by
  obtain ⟨m, rfl⟩ := Nat.exists_eq_add_of_le hk
  rw [indexWidths, ← List.range'_append_1, List.map_append, List.take_left' (by simp), indexWidths]

theorem fieldOffset_eq (ip : IndexPrec) (t : Tier) (shape : Nat) {i : Nat} (hi : i ≤ 16) :
    fieldOffset ip t shape i = ((indexWidths ip.bits (isFixup t shape) 16 0).take i).sum := by
  rw [take_indexWidths _ _ hi, indexWidths, ← List.range_eq_range']
  rfl

/-- Index `i` of a primary plane follows those of the pixels before it (R104). -/
theorem primaryFields_getD (b : Block) (ip : IndexPrec) (t : Tier) (shape pos : Nat) {i : Nat}
    (hi : i < 16) :
    (b.fields (indexWidths ip.bits (isFixup t shape) 16 0) pos).getD i 0 =
      b.memRead (pos + fieldOffset ip t shape i) (fieldWidth ip t shape i) := by
  rw [b.fields_getD _ _ (by simpa using hi), fieldOffset_eq ip t shape hi.le,
    indexWidths_getD _ _ hi, Nat.zero_add]
  rfl

end Sys2Proof.Machine

/-! SUPPORT. The walk of a BC6H block (44_bc6h_decode.md R230, R236): each header bit goes to its own bit
of one field, so a field is the sum of its bits. -/

namespace Sys2Proof.Machine

/-- Setting a bit that is clear adds its weight. -/
theorem or_two_pow_of_testBit_eq_false {x j : Nat} (h : x.testBit j = false) :
    x ||| 2 ^ j = x + 2 ^ j := by
  induction j generalizing x with
  | zero =>
    have heven : x % 2 = 0 := by simpa using h
    have hdiv : (x ||| 1) / 2 = x / 2 := by simp [Nat.or_div_two]
    have hmod : (x ||| 1) % 2 = 1 := Nat.or_mod_two_eq_one.mpr (.inr rfl)
    rw [pow_zero]
    omega
  | succ j ih =>
    rw [Nat.testBit_succ] at h
    have hpow : 2 ^ (j + 1) = 2 * 2 ^ j := by rw [pow_succ, Nat.mul_comm]
    have hdiv : (x ||| 2 ^ (j + 1)) / 2 = x / 2 + 2 ^ j := by
      rw [Nat.or_div_two, hpow, Nat.mul_div_cancel_left _ (by decide), ih h]
    have hmod : (x ||| 2 ^ (j + 1)) % 2 = x % 2 := by
      have hmod := Nat.or_mod_two_pow (a := x) (b := 2 ^ (j + 1)) (n := 1)
      rwa [pow_one, hpow, Nat.mul_mod_right, Nat.or_zero, ← hpow] at hmod
    omega

/-! ### The fields of a header -/

/-- `E[k]` as stored (R221). -/
def Header.endpoint (h : Header) (k : Nat) : Rgb Nat :=
  match k with
  | 0 => h.e0
  | 1 => h.e1
  | 2 => h.e2
  | _ => h.e3

/-- The value of a field of a header; the mode code is not kept (R230). -/
def Header.field (h : Header) : HeaderField → Nat
  | .m => 0
  | .d => h.d
  | .r k => (h.endpoint k).r
  | .g k => (h.endpoint k).g
  | .b k => (h.endpoint k).b

theorem Header.zero_field (f : HeaderField) : Header.zero.field f = 0 := by
  cases f with
  | m | d => rfl
  | r k | g k | b k =>
    simp only [field, endpoint]
    split <;> rfl

theorem Header.endpoint_setBit (h : Header) {k l : Nat} (c j : Nat) (hk : k < 4) (hl : l < 4) :
    (h.setBit k c j).endpoint l =
      if l = k then (h.endpoint l).modify c (· ||| 2 ^ j) else h.endpoint l := by
  interval_cases k <;> interval_cases l <;> rfl

@[simp] theorem Header.setBit_d (h : Header) (k c j : Nat) : (h.setBit k c j).d = h.d := by
  unfold Header.setBit
  split <;> rfl

/-- The endpoint number of a header field is below 4. -/
theorem lt_four_of_mem_headerFields {k : Nat}
    (h : HeaderField.r k ∈ headerFields ∨ .g k ∈ headerFields ∨ .b k ∈ headerFields) : k < 4 := by
  simp [headerFields] at h
  omega

theorem mem_headerFields_of_lt_four {k : Nat} (h : k < 4) :
    .r k ∈ headerFields ∧ .g k ∈ headerFields ∧ .b k ∈ headerFields := by
  interval_cases k <;> decide

@[simp] theorem Header.route_none (h : Header) : h.route none = h := rfl

/-- A routed bit is set in its own field. -/
theorem Header.field_route_same (h : Header) {f : HeaderField} (j : Nat) (hf : f ∈ headerFields)
    (hm : f ≠ .m) : (h.route (some (f, j))).field f = h.field f ||| 2 ^ j := by
  cases f with
  | m => exact absurd rfl hm
  | d => rfl
  | r k | g k | b k =>
    have hk : k < 4 := lt_four_of_mem_headerFields (by simp [hf])
    simp [route, field, h.endpoint_setBit _ j hk hk, Rgb.modify]

/-- A routed bit leaves every other field. -/
theorem Header.field_route_other (h : Header) {f g : HeaderField} (j : Nat) (hf : f ∈ headerFields)
    (hg : g ∈ headerFields) (hne : f ≠ g) : (h.route (some (g, j))).field f = h.field f := by
  cases g with
  | m => rfl
  | d =>
    cases f with
    | d => exact absurd rfl hne
    | m | r l | g l | b l => rfl
  | r k | g k | b k =>
    have hk : k < 4 := lt_four_of_mem_headerFields (by simp [hg])
    cases f with
    | m => rfl
    | d => simp [route, field]
    | r l | g l | b l =>
      have hl : l < 4 := lt_four_of_mem_headerFields (by simp [hf])
      obtain rfl | hlk := eq_or_ne l k
      · simp [route, field, h.endpoint_setBit _ j hk hk, Rgb.modify] at hne ⊢
      · simp [route, field, h.endpoint_setBit _ j hk hl, hlk]

/-! ### Gathering a field bit by bit -/

/-- What the header bits below `n` give a field (R224, R230). -/
def gatheredTo (info : Bc6hMode) (b : Block) (f : HeaderField) (n : Nat) : Nat :=
  gathered { info with hdr := n } b f

theorem gatheredTo_hdr (info : Bc6hMode) (b : Block) (f : HeaderField) :
    gatheredTo info b f info.hdr = gathered info b f := rfl

section
variable {info : Bc6hMode} (b : Block) {f : HeaderField} {n : Nat}

theorem gatheredTo_succ_of_entry {j : Nat} (h : headerEntry info.desc n = some (f, j)) :
    gatheredTo info b f (n + 1) = gatheredTo info b f n + b.bit n * 2 ^ j := by
  simp [gatheredTo, gathered, List.range_succ, h]

theorem gatheredTo_succ_of_no_entry (h : ∀ j, headerEntry info.desc n ≠ some (f, j)) :
    gatheredTo info b f (n + 1) = gatheredTo info b f n := by
  cases hentry : headerEntry info.desc n with
  | none => simp [gatheredTo, gathered, List.range_succ, hentry]
  | some x =>
    have hne : x.1 ≠ f := fun hx => h x.2 (by rw [hentry, ← hx])
    simp [gatheredTo, gathered, List.range_succ, hentry, hne]

/-- Bits that go to other fields add nothing. -/
theorem gatheredTo_eq_zero (h : ∀ p < n, ∀ j, headerEntry info.desc p ≠ some (f, j)) :
    gatheredTo info b f n = 0 := by
  induction n with
  | zero => rfl
  | succ n ih =>
    rw [gatheredTo_succ_of_no_entry b (h n (Nat.lt_succ_self n)),
      ih fun p hp => h p (Nat.lt_succ_of_lt hp)]

end

theorem bc6hModes_prefixBits_le : ∀ info ∈ bc6hModes, info.prefixBits ≤ info.hdr := by decide

theorem bc6hModes_shapes_le : ∀ info ∈ bc6hModes, 2 ^ info.fieldWidth .d ≤ 64 := by decide

/-- After the header bits below `pos`: each field is what they give it, and a bit set in it is the bit
of one of them. -/
def Gathers (info : Bc6hMode) (b : Block) (h : Header) (pos : Nat) : Prop :=
  ∀ f ∈ headerFields, f ≠ .m → h.field f = gatheredTo info b f pos ∧
    ∀ j, (h.field f).testBit j = true → ∃ p < pos, headerEntry info.desc p = some (f, j)

section
variable {info : Bc6hMode} (hinfo : info ∈ bc6hModes) (b : Block)
include hinfo

theorem bc6hModes_mem_descLayout {p : Nat} (hp : p < info.hdr) {x : HeaderField × Nat}
    (h : headerEntry info.desc p = some x) : x ∈ descLayout info.desc := by
  have hentry := List.mem_map_of_mem (f := headerEntry info.desc) (List.mem_range.mpr hp)
  rw [bc6hModes_entries hinfo, h] at hentry
  simpa using hentry

theorem bc6hModes_entry_field_mem {p : Nat} (hp : p < info.hdr) {f : HeaderField} {j : Nat}
    (h : headerEntry info.desc p = some (f, j)) : f ∈ headerFields := by
  obtain ⟨run, hrun, rfl⟩ := exists_run_of_mem_descLayout (bc6hModes_mem_descLayout hinfo hp h)
  exact bc6hModes_field_mem info hinfo run hrun

/-- No two header bits are the same bit of a field. -/
theorem bc6hModes_entry_inj {p q : Nat} (hp : p < info.hdr) (hq : q < info.hdr)
    {x : HeaderField × Nat} (hpx : headerEntry info.desc p = some x)
    (hqx : headerEntry info.desc q = some x) : p = q := by
  have hnodup : (descLayout info.desc).Nodup := by
    refine List.nodup_iff_count_le_one.mpr fun ⟨f, j⟩ => ?_
    by_cases hf : f ∈ headerFields
    · rw [bc6hModes_count hinfo hf]
      split <;> omega
    · refine (List.count_eq_zero.mpr fun hmem => hf ?_).le.trans (Nat.zero_le 1)
      obtain ⟨run, hrun, rfl⟩ := exists_run_of_mem_descLayout hmem
      exact bc6hModes_field_mem info hinfo run hrun
  have hentries : ((List.range info.hdr).map (headerEntry info.desc)).Nodup :=
    bc6hModes_entries hinfo ▸ hnodup.map (Option.some_injective _)
  exact List.inj_on_of_nodup_map hentries (List.mem_range.mpr hp) (List.mem_range.mpr hq)
    (hpx.trans hqx.symm)

/-- The prefix bits leave every field at 0. -/
theorem gathers_zero : Gathers info b .zero info.prefixBits := by
  intro f _ hm
  have hother : ∀ p < info.prefixBits, ∀ j, headerEntry info.desc p ≠ some (f, j) := by
    intro p hp j h
    rw [bc6hModes_headerEntry_mode info hinfo p hp] at h
    exact hm (congrArg Prod.fst (Option.some.inj h)).symm
  rw [Header.zero_field, gatheredTo_eq_zero b hother]
  exact ⟨rfl, fun j hj => by simp at hj⟩

/-- One more header bit: it is set, if at all, where the field has no bit yet. -/
theorem gathers_step {h : Header} {pos : Nat} (hpos : pos < info.hdr) (hg : Gathers info b h pos) :
    Gathers info b (if b.bit pos = 1 then h.route (headerEntry info.desc pos) else h) (pos + 1) := by
  intro f hf hm
  obtain ⟨hvalue, hbits⟩ := hg f hf hm
  have hbits' : ∀ j, (h.field f).testBit j = true →
      ∃ p < pos + 1, headerEntry info.desc p = some (f, j) := fun j hj => by
    obtain ⟨p, hp, hentry⟩ := hbits j hj
    exact ⟨p, Nat.lt_succ_of_lt hp, hentry⟩
  by_cases hentry : ∃ j, headerEntry info.desc pos = some (f, j)
  · obtain ⟨j, hentry⟩ := hentry
    rw [gatheredTo_succ_of_entry b hentry, ← hvalue]
    obtain hbit | hbit : b.bit pos = 0 ∨ b.bit pos = 1 := by
      have := b.bit_lt pos
      omega
    · simpa [hbit] using hbits'
    · have hclear : (h.field f).testBit j = false := by
        refine Bool.eq_false_iff.mpr fun hset => ?_
        obtain ⟨p, hp, hentry'⟩ := hbits j hset
        exact hp.ne (bc6hModes_entry_inj hinfo (hp.trans hpos) hpos hentry' hentry)
      rw [if_pos hbit, hbit, Nat.one_mul, hentry, h.field_route_same j hf hm]
      refine ⟨or_two_pow_of_testBit_eq_false hclear, fun k hk => ?_⟩
      rw [Nat.testBit_or, Bool.or_eq_true, Nat.testBit_two_pow, decide_eq_true_eq] at hk
      obtain hk | rfl := hk
      · exact hbits' k hk
      · exact ⟨pos, Nat.lt_succ_self pos, hentry⟩
  · have hroute : (h.route (headerEntry info.desc pos)).field f = h.field f := by
      cases hx : headerEntry info.desc pos with
      | none => rfl
      | some x =>
        have hne : f ≠ x.1 := fun hfx => hentry ⟨x.2, by rw [hx, hfx]⟩
        exact h.field_route_other x.2 hf (bc6hModes_entry_field_mem hinfo hpos hx) hne
    rw [gatheredTo_succ_of_no_entry b (not_exists.mp hentry), ← hvalue, apply_ite (Header.field · f),
      hroute, ite_self]
    exact ⟨rfl, hbits'⟩

theorem bc6hModes_hdr_le : info.hdr ≤ 82 := by
  obtain ⟨-, h⟩ | ⟨-, h⟩ := bc6hModes_tier_hdr info hinfo <;> omega

theorem headerWalk_gathers {n pos : Nat} {h : Header} (hn : pos + n ≤ info.hdr)
    (hg : Gathers info b h pos) :
    ∃ h', headerWalk b info.desc n h pos = .ok h' (pos + n) ∧ Gathers info b h' (pos + n) := by
  have hhdr := bc6hModes_hdr_le hinfo
  induction n generalizing pos h with
  | zero => exact ⟨h, rfl, hg⟩
  | succ n ih =>
    obtain ⟨h', hwalk, hg'⟩ := ih (by omega) (gathers_step hinfo b (by omega) hg)
    rw [Nat.add_assoc, Nat.add_comm 1 n] at hwalk hg'
    exact ⟨h', by rw [headerWalk, getBit_ok b (by omega), Walk.bind_ok, hwalk], hg'⟩

/-! ### The whole walk -/

/-- A walked header: each field is gathered from its bits and fits its width. -/
theorem bc6hHeader_ok : ∃ h, headerWalk b info.desc (info.hdr - info.prefixBits) .zero
      info.prefixBits = .ok h info.hdr ∧
    ∀ f ∈ headerFields, f ≠ .m →
      h.field f = gathered info b f ∧ h.field f < 2 ^ info.fieldWidth f := by
  have hprefix : info.prefixBits + (info.hdr - info.prefixBits) = info.hdr :=
    Nat.add_sub_of_le (bc6hModes_prefixBits_le info hinfo)
  obtain ⟨h, hwalk, hg⟩ := headerWalk_gathers hinfo b hprefix.le (gathers_zero hinfo b)
  rw [hprefix] at hwalk hg
  refine ⟨h, hwalk, fun f hf hm => ?_⟩
  obtain ⟨hvalue, hbits⟩ := hg f hf hm
  refine ⟨hvalue, Nat.lt_pow_two_of_testBit _ fun j hj => Bool.eq_false_iff.mpr fun hset => ?_⟩
  obtain ⟨p, hp, hentry⟩ := hbits j hset
  exact absurd (bc6hModes_lt_fieldWidth hinfo (bc6hModes_mem_descLayout hinfo hp hentry))
    (Nat.not_lt.mpr hj)

/-- The index fields of a walked block: they follow the header up to bit 128, whatever the shape. -/
theorem bc6hIndices_ok {d : Nat} (hd : d < 2 ^ info.fieldWidth .d) :
    readIndices b info.ip.bits (isFixup info.tier d) 16 0 info.hdr =
      .ok (b.fields (indexWidths info.ip.bits (isFixup info.tier d) 16 0) info.hdr) 128 := by
  have hd64 : d < 64 := hd.trans_le (bc6hModes_shapes_le info hinfo)
  have hplane := planeWidth_isFixup info.ip info.tier hd64
  have hends := bc6hModes_block_ends info hinfo
  have hsum : info.hdr + planeWidth info.ip.bits (isFixup info.tier d) 16 0 = 128 := by omega
  rw [readIndices_eq b _ 16 0 info.ip.bits_le hsum.le, hsum]

/-- The walk of a block of a valid mode succeeds and ends at bit 128. -/
theorem bc6hWalk_ok : ∃ h : Header,
    bc6hWalk info b = .ok
      (h, b.fields (indexWidths info.ip.bits (isFixup info.tier h.d) 16 0) info.hdr) 128 ∧
    ∀ f ∈ headerFields, f ≠ .m →
      h.field f = gathered info b f ∧ h.field f < 2 ^ info.fieldWidth f := by
  obtain ⟨h, hwalk, hfields⟩ := bc6hHeader_ok hinfo b
  have hd : h.d < 2 ^ info.fieldWidth .d := (hfields .d (by decide) (by decide)).2
  exact ⟨h, by rw [bc6hWalk, hwalk, Walk.bind_ok, bc6hIndices_ok hinfo b hd, Walk.bind_ok], hfields⟩

end

/-- Settles O37: every header bit lands in its own bit of one field, and the index fields follow the
header with the widths of the shape. -/
theorem bc6hFieldsLieWhereTheLayoutSays : Obligations.Bc6hFieldsLieWhereTheLayoutSays := by
  unfold Obligations.Bc6hFieldsLieWhereTheLayoutSays
  intro info hinfo b
  obtain ⟨h, hwalk, hfields⟩ := bc6hWalk_ok hinfo b
  have hgathered : ∀ f ∈ headerFields, f ≠ .m → h.field f = gathered info b f := fun f hf hm =>
    (hfields f hf hm).1
  have hendpoint : ∀ k < 4, h.endpoint k =
      ⟨gathered info b (.r k), gathered info b (.g k), gathered info b (.b k)⟩ := fun k hk => by
    obtain ⟨hr, hg, hb⟩ := mem_headerFields_of_lt_four hk
    rw [← hgathered _ hr nofun, ← hgathered _ hg nofun, ← hgathered _ hb nofun]
    rfl
  exact ⟨h, _, hwalk, hendpoint 0 (by decide), hendpoint 1 (by decide), hendpoint 2 (by decide),
    hendpoint 3 (by decide), hgathered .d (by decide) nofun, by simp,
    fun i hi => primaryFields_getD b info.ip info.tier h.d info.hdr hi⟩

end Sys2Proof.Machine

/-! SUPPORT. The mode reads of `DEC_BC6H` and `DEC_BC7` (44_bc6h_decode.md R227, 45_bc7_decode.md R265) take
from `BLK[0]` the prefix that the decoder takes from it (30_encoding.md R100, R101, R103), so the commands run
the layout row of that prefix. -/

namespace Sys2Proof.Machine

/-! ### The layout rows -/

theorem exec_bc6hRow (sgn : Bool) (s : State) : ∀ row ∈ bc6hRows sgn,
    exec row.1 s = .next (bc6hDecode row.2 sgn s) := by
  simp only [bc6hRows, List.forall_mem_cons]
  refine ⟨rfl, rfl, rfl, rfl, rfl, rfl, rfl, rfl, rfl, rfl, rfl, rfl, rfl, rfl, List.forall_mem_nil _⟩

theorem exec_bc6hReservedRow (sgn : Bool) (s : State) : ∀ row ∈ bc6hReservedRows sgn,
    exec row.1 s = .next (bc6hBadMode row.2 s) := by
  simp only [bc6hReservedRows, List.forall_mem_cons]
  exact ⟨rfl, rfl, rfl, rfl, List.forall_mem_nil _⟩

theorem exec_bc7Row (s : State) : ∀ row ∈ bc7Rows, exec row.1 s = .next (bc7Decode row.2 s) := by
  simp only [bc7Rows, List.forall_mem_cons]
  exact ⟨rfl, rfl, rfl, rfl, rfl, rfl, rfl, rfl, List.forall_mem_nil _⟩

theorem bc6hRows_mode_mem (sgn : Bool) : ∀ row ∈ bc6hRows sgn, row.2 ∈ bc6hModes := by
  cases sgn <;> decide

theorem bc7Rows_mode_mem : ∀ row ∈ bc7Rows, row.2 ∈ bc7Modes := by decide

/-! ### The BC6H mode read -/

/-- The mode read gives the mode code of the block's first byte (R100, R227). -/
theorem bc6hModeRead_eq (b : Block) : ∃ pos, bc6hModeRead b = .ok (bc6hCode b[0]) pos := by
  have hbyte : b.byte 0 = (b[0]).toNat := b.byte_eq 0
  have htwo : b.memRead 0 2 = (b[0]).toNat % 4 := by
    rw [← hbyte]
    exact b.memRead_byte_low 0 (by decide)
  have hfive : b.memRead 0 2 + 2 ^ 2 * b.memRead 2 3 = (b[0]).toNat % 32 := by
    rw [← hbyte, ← b.memRead_add 0 2 3]
    exact b.memRead_byte_low 0 (by decide)
  rw [bc6hModeRead, getBits_ok b (by decide) (by decide), Walk.bind_ok, bc6hCode, ← htwo]
  by_cases hm : b.memRead 0 2 < 2
  · exact ⟨2, by rw [if_neg (Nat.not_le.mpr hm), if_pos hm]⟩
  · have hor : b.memRead 0 2 ||| b.memRead 2 3 * 4 = (b[0]).toNat % 32 := by
      rw [← hfive, Nat.or_comm, Nat.mul_comm, Nat.add_comm]
      exact (Nat.two_pow_add_eq_or_of_lt (b.memRead_lt 0 2) _).symm
    refine ⟨5, ?_⟩
    rw [if_pos (Nat.not_lt.mp hm), getBits_ok b (by decide) (by decide), Walk.bind_ok, hor, if_neg hm]

/-- The codes a prefix byte can have (R101). -/
theorem bc6hCode_mem (b0 : Byte) : bc6hCode b0 ∈ [0x00, 0x01, 0x02, 0x06, 0x0A, 0x0E, 0x12, 0x16,
    0x1A, 0x1E, 0x03, 0x07, 0x0B, 0x0F, 0x13, 0x17, 0x1B, 0x1F] := by
  revert b0
  decide

/-- After the mode read the command is the layout row of the same code. -/
theorem bc6hRun_bc6hCode (b0 : Byte) (sgn : Bool) (s : State) :
    bc6hRun (bc6hCode b0) sgn s = exec (bc6hLayout sgn b0) s := by
  have hcode := bc6hCode_mem b0
  simp only [List.mem_cons, List.not_mem_nil, or_false] at hcode
  rcases hcode with h | h | h | h | h | h | h | h | h | h | h | h | h | h | h | h | h | h <;>
    simp [bc6hLayout, h] <;> rfl

theorem exec_decBc6h_eq_layout (sgn : Bool) (s : State) :
    exec (.decBc6h sgn) s = exec (bc6hLayout sgn s.blk[0]) s := by
  obtain ⟨pos, hread⟩ := bc6hModeRead_eq s.blk
  rw [← bc6hRun_bc6hCode, exec, execDecBc6h, hread]

/-- A prefix byte selects the row of a valid mode, or the row of its own reserved code (R101, R228). -/
theorem bc6hLayout_cases (sgn : Bool) (b0 : Byte) :
    b0.toNat &&& 0x13 ≠ 0x13 ∧ bc6hLayout sgn b0 ∈ (bc6hRows sgn).map Prod.fst ∨
      b0.toNat &&& 0x13 = 0x13 ∧ (bc6hLayout sgn b0, b0.toNat % 32) ∈ bc6hReservedRows sgn := by
  revert b0
  cases sgn <;> decide

/-! ### The BC7 mode read -/

/-- The scan stops behind the first bit that is one. -/
theorem bc7ModeScan_of_one {b : Block} {n k : Nat} (hk : k < n) (mode : Nat) {pos : Nat}
    (hpos : pos + n ≤ 128) (hzero : ∀ j < k, b.bit (pos + j) = 0) (hone : b.bit (pos + k) = 1) :
    bc7ModeScan b n mode pos = .ok (mode + k) (pos + k + 1) := by
  induction n generalizing k mode pos with
  | zero => exact absurd hk (Nat.not_lt_zero k)
  | succ n ih =>
    rw [bc7ModeScan, getBit_ok b (by omega), Walk.bind_ok]
    cases k with
    | zero => exact if_pos hone
    | succ k =>
      have hfirst : b.bit pos ≠ 1 := by simp [show b.bit pos = 0 from hzero 0 (Nat.succ_pos k)]
      rw [if_neg hfirst, ih (Nat.lt_of_succ_lt_succ hk) _ (by omega)]
      · congr 1 <;> omega
      · intro j hj
        rw [Nat.add_assoc, Nat.add_comm 1 j]
        exact hzero (j + 1) (by omega)
      · rw [Nat.add_assoc, Nat.add_comm 1 k]
        exact hone

/-- The scan of zero bits runs to its end. -/
theorem bc7ModeScan_of_zero {b : Block} (n mode : Nat) {pos : Nat} (hpos : pos + n ≤ 128)
    (hzero : ∀ j < n, b.bit (pos + j) = 0) :
    bc7ModeScan b n mode pos = .ok (mode + n) (pos + n) := by
  induction n generalizing mode pos with
  | zero => rfl
  | succ n ih =>
    have hfirst : b.bit pos ≠ 1 := by simp [show b.bit pos = 0 from hzero 0 (Nat.succ_pos n)]
    rw [bc7ModeScan, getBit_ok b (by omega), Walk.bind_ok, if_neg hfirst, ih _ (by omega)]
    · congr 1 <;> omega
    · intro j hj
      rw [Nat.add_assoc, Nat.add_comm 1 j]
      exact hzero (j + 1) (by omega)

/-- The first eight block bits are those of the first byte. -/
theorem Block.bit_first_byte (b : Block) {k : Nat} (hk : k < 8) :
    b.bit k = ((b[0]).getLsbD k).toNat := by
  rw [Block.bit_eq_getLsbD, Nat.div_eq_of_lt hk, Nat.mod_eq_of_lt hk]
  rfl

/-- A byte other than zero has a lowest set bit, which selects its row (R103). -/
theorem exists_lowest_bit (b0 : Byte) : b0 = 0 ∨ ∃ k < 8, b0.getLsbD k = true ∧
    (∀ j < k, b0.getLsbD j = false) ∧ (bc7Rows.map Prod.fst)[k]? = some (bc7Layout b0) := by
  revert b0
  decide

/-- After the mode read the command is the row of the mode. -/
theorem bc7Run_of_row {k : Nat} {i : Instr} (hrow : (bc7Rows.map Prod.fst)[k]? = some i) (s : State) :
    bc7Run k s = exec i s := by
  have hk : k < 8 := (List.getElem?_eq_some_iff.mp hrow).1
  interval_cases k <;> obtain rfl := Option.some.inj hrow <;> rfl

theorem bc7ModeRead_of_lowest_bit {b : Block} {k : Nat} (hk : k < 8)
    (hone : (b[0]).getLsbD k = true) (hzero : ∀ j < k, (b[0]).getLsbD j = false) :
    bc7ModeRead b = .ok k (k + 1) := by
  have hscan := bc7ModeScan_of_one (b := b) hk 0 (pos := 0) (by decide) ?zeros ?one
  case zeros =>
    intro j hj
    rw [Nat.zero_add, b.bit_first_byte (hj.trans hk), hzero j hj, Bool.toNat_false]
  case one => rw [Nat.zero_add, b.bit_first_byte hk, hone, Bool.toNat_true]
  rwa [Nat.zero_add] at hscan

theorem bc7ModeRead_of_zero {b : Block} (h : b[0] = 0) : bc7ModeRead b = .ok 8 8 := by
  refine bc7ModeScan_of_zero 8 0 (by decide) fun j hj => ?_
  simp [b.bit_first_byte hj, h]

theorem exec_decBc7_eq_layout (s : State) : exec .decBc7 s = exec (bc7Layout s.blk[0]) s := by
  obtain hzero | ⟨k, hk, hone, hzero, hrow⟩ := exists_lowest_bit s.blk[0]
  · rw [exec, execDecBc7, bc7ModeRead_of_zero hzero, hzero]
    rfl
  · rw [← bc7Run_of_row hrow s, exec, execDecBc7, bc7ModeRead_of_lowest_bit hk hone hzero]

/-- A prefix byte other than zero selects the row of a mode. -/
theorem bc7Layout_cases (b0 : Byte) :
    b0 ≠ 0 ∧ bc7Layout b0 ∈ bc7Rows.map Prod.fst ∨ b0 = 0 ∧ bc7Layout b0 = .bc7Reserved := by
  revert b0
  decide

/-- Settles O5: the mode read through the cursor is the prefix of the first byte. -/
theorem decodeCommandsRunTheLayoutRowOfTheirPrefix :
    Obligations.DecodeCommandsRunTheLayoutRowOfTheirPrefix := by
  unfold Obligations.DecodeCommandsRunTheLayoutRowOfTheirPrefix
  intro i j s hlayout
  cases i
  case decBc6h sgn =>
    obtain rfl := Option.some.inj hlayout
    exact exec_decBc6h_eq_layout sgn s
  case decBc7 =>
    obtain rfl := Option.some.inj hlayout
    exact exec_decBc7_eq_layout s
  -- no other instruction has a prefix
  all_goals cases hlayout

end Sys2Proof.Machine

/-! SUPPORT. `DEC_BC6H` as a whole (44_bc6h_decode.md R228, R245, R246): a reserved prefix gives the error
block, every other block is walked to its end. -/

namespace Sys2Proof.Machine

/-! ### The error block -/

theorem warnWith_badMode (w : Byte) : warnWith w .badMode = w ||| 1 := rfl

/-- What `BAD_MODE(m)` of `DEC_BC6H` leaves (R228, R347). -/
def Bc6hErrorBlock (m : Nat) (s t : State) : Prop :=
  (∀ i : Fin 16, t.pixh[i] = ⟨0x0000, 0x0000, 0x0000, 0x3C00⟩) ∧ t.pos = 5 ∧
    t.stat = BitVec.ofNat 32 (m * 256 + 1) ∧ t.warn = s.warn ||| 1 ∧
    t.blk = s.blk ∧ t.pix8 = s.pix8 ∧ t.val = s.val ∧ t.fatal = s.fatal ∧ KeepsHostSide s t

theorem bc6hErrorBlock_bc6hBadMode {m : Nat} (hm : m < 256) (s : State) :
    Bc6hErrorBlock m s (bc6hBadMode m s) := by
  have hstat : (bc6hBadMode m s).stat = BitVec.ofNat 32 (m * 256 + 1) :=
    (s.errorAction_stat ..).trans (statWord_of_lt .badMode hm)
  refine ⟨fun i => ?_, by simp [bc6hBadMode], hstat, by simp [bc6hBadMode, warnWith_badMode],
    s.errorAction_blk .., by simp [bc6hBadMode], by simp [bc6hBadMode], by simp [bc6hBadMode],
    keepsHostSide_errorAction s ..⟩
  simp [bc6hBadMode, bc6hErrorPixel]

theorem completes_bc6hReservedRow {sgn : Bool} {row : Instr × Nat}
    (hrow : row ∈ bc6hReservedRows sgn) (s : State) : Completes row.1 s (Bc6hErrorBlock row.2 s) := by
  have hm : row.2 < 256 := by
    revert row
    cases sgn <;> decide
  exact ⟨_, exec_bc6hReservedRow sgn s row hrow, bc6hErrorBlock_bc6hBadMode hm s⟩

/-- A block with a reserved prefix (R228). -/
theorem completes_decBc6h_of_reserved {sgn : Bool} {s : State}
    (h : (s.blk[0]).toNat &&& 0x13 = 0x13) :
    Completes (.decBc6h sgn) s (Bc6hErrorBlock ((s.blk[0]).toNat % 32) s) := by
  obtain ⟨hvalid, -⟩ | ⟨-, hrow⟩ := bc6hLayout_cases sgn s.blk[0]
  · exact absurd h hvalid
  · rw [Completes, exec_decBc6h_eq_layout]
    exact completes_bc6hReservedRow hrow s

/-- Settles O35: such a prefix byte has a reserved code, whose row is the error action. -/
theorem bc6hBadModeBlocksGiveTheErrorBlock : Obligations.Bc6hBadModeBlocksGiveTheErrorBlock := by
  unfold Obligations.Bc6hBadModeBlocksGiveTheErrorBlock
  refine ⟨?noRow, fun sgn s h => completes_decBc6h_of_reserved h,
    fun sgn s row hrow => completes_bc6hReservedRow hrow s⟩
  case noRow => decide

/-! ### The blocks of a valid mode -/

theorem endsAt_complete (t : State) {p : Nat} (hp : p < 256) : EndsAt (t.setPos p).complete p :=
  ⟨by simp [Nat.mod_eq_of_lt hp], rfl⟩

theorem keepsAllButPixh_bc6hEmit (info : Bc6hMode) (sgn : Bool) (s : State)
    (x : Header × List Nat) : KeepsAllButPixh s (bc6hEmit info sgn s x) := by
  simp [bc6hEmit, KeepsAllButPixh, KeepsHostSide]

/-- The end of a command writes only `POS` and `STAT` (R82 step 4). -/
theorem KeepsAllButPixh.setPos_complete {s t : State} (h : KeepsAllButPixh s t) (p : Nat) :
    KeepsAllButPixh s (t.setPos p).complete := h

section
variable {sgn : Bool} {row : Instr × Bc6hMode} (hrow : row ∈ bc6hRows sgn) (s : State)
include hrow

/-- A mode row emits the pixels of its walk, which ends at bit 128. -/
theorem exec_bc6hRow_walk : ∃ (h : Header) (idx : List Nat),
    bc6hWalk row.2 s.blk = .ok (h, idx) 128 ∧
    (∀ f ∈ headerFields, f ≠ .m → h.field f < 2 ^ row.2.fieldWidth f) ∧
    exec row.1 s = .next ((bc6hEmit row.2 sgn s (h, idx)).setPos 128).complete := by
  obtain ⟨h, hwalk, hfields⟩ := bc6hWalk_ok (bc6hRows_mode_mem sgn row hrow) s.blk
  refine ⟨h, _, hwalk, fun f hf hm => (hfields f hf hm).2, ?_⟩
  rw [exec_bc6hRow sgn s row hrow, bc6hDecode, hwalk, State.finish_ok]

theorem completes_bc6hRow :
    Completes row.1 s fun t => EndsAt t 128 ∧ KeepsAllButPixh s t := by
  obtain ⟨h, idx, -, -, hexec⟩ := exec_bc6hRow_walk hrow s
  exact ⟨_, hexec, endsAt_complete _ (by decide), (keepsAllButPixh_bc6hEmit _ _ s _).setPos_complete 128⟩

end

/-- A valid prefix selects a mode row. -/
theorem exists_bc6hRow_of_valid {sgn : Bool} {s : State} (h : (s.blk[0]).toNat &&& 0x13 ≠ 0x13) :
    ∃ row ∈ bc6hRows sgn, exec (.decBc6h sgn) s = exec row.1 s := by
  obtain ⟨-, hrow⟩ | ⟨hreserved, -⟩ := bc6hLayout_cases sgn s.blk[0]
  · obtain ⟨row, hrow, hfst⟩ := List.mem_map.mp hrow
    exact ⟨row, hrow, by rw [exec_decBc6h_eq_layout, hfst]⟩
  · exact absurd hreserved h

theorem completes_decBc6h_of_valid {sgn : Bool} {s : State}
    (h : (s.blk[0]).toNat &&& 0x13 ≠ 0x13) :
    Completes (.decBc6h sgn) s fun t => EndsAt t 128 ∧ KeepsAllButPixh s t := by
  obtain ⟨row, hrow, hexec⟩ := exists_bc6hRow_of_valid (sgn := sgn) h
  rw [Completes, hexec]
  exact completes_bc6hRow hrow s

theorem statCause_of_stat_eq_zero {t : State} (h : t.stat = 0) : t.statCause = 0 := by
  rw [State.statCause, h]
  rfl

/-- `STAT.cause` after `DEC_BC6H` says whether the prefix is reserved. -/
theorem statCause_decBc6h {sgn : Bool} {s t : State} (h : exec (.decBc6h sgn) s = .next t) :
    t.statCause = if (s.blk[0]).toNat &&& 0x13 = 0x13 then 1 else 0 := by
  split
  case isTrue hreserved =>
    obtain ⟨hvalid, -⟩ | ⟨-, hrow⟩ := bc6hLayout_cases sgn s.blk[0]
    · exact absurd hreserved hvalid
    · rw [exec_decBc6h_eq_layout, exec_bc6hReservedRow sgn s _ hrow, Host.Outcome.next.injEq] at h
      rw [← h]
      exact s.errorAction_statCause ..
  case isFalse hvalid =>
    obtain ⟨u, hu, ⟨-, hstat⟩, -⟩ := completes_decBc6h_of_valid (sgn := sgn) hvalid
    obtain rfl : u = t := Host.Outcome.next.inj (hu.symm.trans h)
    exact statCause_of_stat_eq_zero hstat

/-- Settles O36: a valid prefix selects a row whose walk succeeds, so that the one error is that of a
reserved prefix. -/
theorem validBc6hBlocksDecodeToBit128 : Obligations.ValidBc6hBlocksDecodeToBit128 := by
  unfold Obligations.ValidBc6hBlocksDecodeToBit128
  intro sgn s
  refine ⟨completes_decBc6h_of_valid, ⟨?onlyIf, fun h => ?reserved⟩, fun t h => ?cause⟩
  case onlyIf =>
    rintro ⟨t, h, hcause⟩
    rw [statCause_decBc6h h] at hcause
    by_contra hvalid
    exact hcause (if_neg hvalid)
  case reserved =>
    obtain ⟨t, ht, -⟩ := completes_decBc6h_of_reserved (sgn := sgn) h
    have hcause : t.statCause = 1 := (statCause_decBc6h ht).trans (if_pos h)
    exact ⟨t, ht, by simp [hcause]⟩
  case cause =>
    rw [statCause_decBc6h h]
    split
    · exact .inr rfl
    · exact .inl rfl

/-- Settles O39: the pixels a row emits are those of its walk. -/
theorem bc6hModeRowsEmitTheirPixels : Obligations.Bc6hModeRowsEmitTheirPixels := by
  unfold Obligations.Bc6hModeRowsEmitTheirPixels
  intro sgn s row hrow
  obtain ⟨h, idx, hwalk, -, hexec⟩ := exec_bc6hRow_walk hrow s
  refine ⟨h, idx, hwalk, _, hexec, fun i => ?_, endsAt_complete _ (by decide),
    (keepsAllButPixh_bc6hEmit _ _ s _).setPos_complete 128⟩
  simp [bc6hEmit, bc6hPixel, bc6hChannel]

/-! ### Equal endpoints -/

/-- The pixel of a single endpoint value. -/
def bc6hFlatPixel (info : Bc6hMode) (sgn : Bool) (A : Rgb Int) : Pixel Half :=
  ⟨BitVec.ofNat 16 (half6h (fin6h (unq6h A.r info.pA.r sgn) sgn) sgn),
    BitVec.ofNat 16 (half6h (fin6h (unq6h A.g info.pA.g sgn) sgn) sgn),
    BitVec.ofNat 16 (half6h (fin6h (unq6h A.b info.pA.b sgn) sgn) sgn), 0x3C00⟩

/-- Interpolation from a value to itself gives it at every weight. -/
theorem bc6hPixel_of_endpoints_eq {info : Bc6hMode} {sgn : Bool} {e : Endpoints} {d i x : Nat}
    (h : e.get (2 * regionOf .bc6h info.tier d i) = e.get (2 * regionOf .bc6h info.tier d i + 1)) :
    bc6hPixel info sgn e d i x =
      bc6hFlatPixel info sgn (e.get (2 * regionOf .bc6h info.tier d i)) := by
  simp only [bc6hPixel, ← h, bc6hChannel, interp_self, bc6hFlatPixel]

theorem Endpoints.get_of_all_eq {e : Endpoints} (h1 : e.e0 = e.e1) (h2 : e.e0 = e.e2)
    (h3 : e.e0 = e.e3) (k : Nat) : e.get k = e.e0 := by
  unfold Endpoints.get
  split
  · rfl
  · exact h1.symm
  · exact h2.symm
  · exact h3.symm

/-- Settles O41: a pixel between equal endpoints is that of the one value, whatever its index. -/
theorem equalEndpointsGiveOnePixelValue : Obligations.EqualEndpointsGiveOnePixelValue := by
  unfold Obligations.EqualEndpointsGiveOnePixelValue
  intro info _ sgn e d i j x y
  refine ⟨fun hregion h => ?region, fun h1 h2 h3 => ?all⟩
  case region =>
    rw [bc6hPixel_of_endpoints_eq h, bc6hPixel_of_endpoints_eq (hregion ▸ h), hregion]
  case all =>
    have hget := Endpoints.get_of_all_eq h1 h2 h3
    rw [bc6hPixel_of_endpoints_eq (by rw [hget, hget]), bc6hPixel_of_endpoints_eq (by rw [hget, hget]),
      hget, hget]

end Sys2Proof.Machine

/-! SUPPORT. The endpoints of a BC6H block (44_bc6h_decode.md R231 to R235), the unquantiser, the final scale
and the half pattern (41_palette_math.md R153 to R156), and the ranges their results keep. -/

namespace Sys2Proof.Machine

/-! ### Sign extension (R156) -/

theorem two_pow_eq_two_mul {n : Nat} (hn : 1 ≤ n) : (2 : Int) ^ n = 2 * 2 ^ (n - 1) := by
  rw [← pow_succ', Nat.sub_add_cancel hn]

theorem sext_emod (n : Nat) (v : Int) : (sext n v - v) % 2 ^ n = 0 := by
  simp only [sext]
  split <;> simp [Int.sub_emod]

theorem sext_range {n : Nat} (hn : 1 ≤ n) (v : Int) :
    -2 ^ (n - 1) ≤ sext n v ∧ sext n v < 2 ^ (n - 1) := by
  have hpos : (0 : Int) < 2 ^ n := by positivity
  have hlo := Int.emod_nonneg v hpos.ne'
  have hhi := Int.emod_lt_of_pos v hpos
  have hhalf := two_pow_eq_two_mul hn
  simp only [sext]
  generalize v % 2 ^ n = u at *
  split <;> omega

/-! ### The endpoints of a block (R231 to R234) -/

/-- The range of a component of `bits` bits (R235). -/
def ComponentRange (sgn : Bool) (bits : Nat) (x : Int) : Prop :=
  if sgn then -2 ^ (bits - 1) ≤ x ∧ x < 2 ^ (bits - 1) else 0 ≤ x ∧ x < 2 ^ bits

/-- A component of another endpoint than `E[0]`: sign-extended if signed or transformed, then added to
that of `E[0]` if transformed (R232, R233). -/
def bc6hComponent (sgn transformed : Bool) (pA pD : Nat) (base stored : Int) : Int :=
  let delta := if sgn || transformed then sext pD stored else stored
  if transformed then untransform sgn pA base delta else delta

section
variable {sgn : Bool} {pA pD : Nat} (base : Int) {stored : Int}

theorem componentRange_sext (hpA : 1 ≤ pA) (v : Int) : ComponentRange true pA (sext pA v) :=
  sext_range hpA v

theorem componentRange_stored (hpA : 1 ≤ pA) (h0 : 0 ≤ stored) (h : stored < 2 ^ pA) :
    ComponentRange sgn pA (if sgn then sext pA stored else stored) := by
  cases sgn with
  | false => exact ⟨h0, h⟩
  | true => exact componentRange_sext hpA stored

theorem componentRange_untransform (hpA : 1 ≤ pA) (delta : Int) :
    ComponentRange sgn pA (untransform sgn pA base delta) := by
  have hpos : (0 : Int) < 2 ^ pA := by positivity
  cases sgn with
  | false => exact ⟨Int.emod_nonneg _ hpos.ne', Int.emod_lt_of_pos _ hpos⟩
  | true => exact componentRange_sext hpA _

theorem bc6hComponent_of_not_transformed :
    bc6hComponent sgn false pA pD base stored = if sgn then sext pD stored else stored := by
  simp [bc6hComponent]

theorem bc6hComponent_of_transformed :
    bc6hComponent sgn true pA pD base stored = untransform sgn pA base (sext pD stored) := by
  simp [bc6hComponent]

theorem untransform_emod (delta : Int) :
    (untransform sgn pA base delta - (delta + base)) % 2 ^ pA = 0 := by
  have hmask : ((delta + base) % 2 ^ pA - (delta + base)) % 2 ^ pA = 0 := by simp [Int.sub_emod]
  cases sgn with
  | false => exact hmask
  | true =>
    have hsext := sext_emod pA ((delta + base) % 2 ^ pA)
    have hsum := Int.add_emod (sext pA ((delta + base) % 2 ^ pA) - (delta + base) % 2 ^ pA)
      ((delta + base) % 2 ^ pA - (delta + base)) (2 ^ pA)
    rw [hsext, hmask, sub_add_sub_cancel] at hsum
    exact hsum

end

@[simp] theorem Endpoints.mapOthers_e0 (e : Endpoints) (t : Tier) (f : Rgb Int → Rgb Int) :
    (e.mapOthers t f).e0 = e.e0 := by cases t <;> rfl

theorem Endpoints.get_mapOthers (e : Endpoints) {t : Tier} (f : Rgb Int → Rgb Int) {k : Nat}
    (h1 : 1 ≤ k) (hk : k < t.endpoints) : (e.mapOthers t f).get k = f (e.get k) := by
  cases t with
  | zero | one | two =>
    simp only [Tier.endpoints, Tier.toNat] at hk
    interval_cases k <;> rfl

theorem Header.endpoints_get (h : Header) (k : Nat) :
    h.endpoints.get k = (h.endpoint k).map Int.ofNat :=
  match k with
  | 0 | 1 | 2 | _ + 3 => rfl

theorem signExtendA_get (info : Bc6hMode) (sgn : Bool) (e : Endpoints) {k : Nat} (h1 : 1 ≤ k) :
    (signExtendA info sgn e).get k = e.get k := by
  unfold signExtendA
  split
  · match k with
    | 1 | 2 | _ + 3 => rfl
  · rfl

/-- `E[0]` is the stored value, sign-extended in the signed format (R231). -/
theorem bc6hEndpoints_e0 (info : Bc6hMode) (sgn : Bool) (h : Header) :
    (bc6hEndpoints info sgn h).e0 =
      if sgn then info.pA.zip sext (h.e0.map Int.ofNat) else h.e0.map Int.ofNat := by
  have hA : (signExtendA info sgn h.endpoints).e0 =
      if sgn then info.pA.zip sext (h.e0.map Int.ofNat) else h.e0.map Int.ofNat := by
    cases sgn <;> rfl
  rw [← hA]
  simp only [bc6hEndpoints, inverseTransform, signExtendOthers]
  split <;> split <;> simp

/-- Another endpoint of the mode, component by component, from its stored value and `E[0]`. -/
def bc6hOther (info : Bc6hMode) (sgn : Bool) (base : Rgb Int) (stored : Rgb Nat) : Rgb Int :=
  ⟨bc6hComponent sgn info.transformed info.pA.r info.pD.r base.r stored.r,
    bc6hComponent sgn info.transformed info.pA.g info.pD.g base.g stored.g,
    bc6hComponent sgn info.transformed info.pA.b info.pD.b base.b stored.b⟩

theorem bc6hEndpoints_get (info : Bc6hMode) (sgn : Bool) (h : Header) {k : Nat} (h1 : 1 ≤ k)
    (hk : k < info.tier.endpoints) :
    (bc6hEndpoints info sgn h).get k =
      bc6hOther info sgn (bc6hEndpoints info sgn h).e0 (h.endpoint k) := by
  have hstored := (signExtendA_get info sgn h.endpoints h1).trans (h.endpoints_get k)
  have hdelta : (signExtendOthers info sgn (signExtendA info sgn h.endpoints)).get k =
      if sgn || info.transformed then info.pD.zip sext ((h.endpoint k).map Int.ofNat)
      else (h.endpoint k).map Int.ofNat := by
    rw [signExtendOthers]
    split
    · rw [Endpoints.get_mapOthers _ _ h1 hk, hstored]
    · exact hstored
  rw [bc6hEndpoints, inverseTransform]
  split
  case isTrue htr =>
    rw [Endpoints.get_mapOthers _ _ h1 hk, hdelta]
    simp [bc6hOther, bc6hComponent, htr, Rgb.zip, Rgb.map]
  case isFalse htr =>
    rw [hdelta]
    cases sgn <;> simp [bc6hOther, bc6hComponent, htr, Rgb.zip, Rgb.map]

/-! ### The ranges of the endpoints (R235) -/

theorem bc6hModes_precisions : ∀ info ∈ bc6hModes,
    (1 ≤ info.pA.r ∧ info.pA.r ≤ 16) ∧ (1 ≤ info.pA.g ∧ info.pA.g ≤ 16) ∧
      (1 ≤ info.pA.b ∧ info.pA.b ≤ 16) ∧ (info.transformed = false → info.pD = info.pA) := by decide

/-- The components of the mode's endpoints fit their stored widths. -/
def Header.Fits (h : Header) (info : Bc6hMode) : Prop :=
  ∀ k < info.tier.endpoints, (h.endpoint k).r < 2 ^ info.fieldWidth (.r k) ∧
    (h.endpoint k).g < 2 ^ info.fieldWidth (.g k) ∧ (h.endpoint k).b < 2 ^ info.fieldWidth (.b k)

/-- All components of an endpoint are in the range of the mode's precision. -/
def EndpointRange (info : Bc6hMode) (sgn : Bool) (x : Rgb Int) : Prop :=
  ComponentRange sgn info.pA.r x.r ∧ ComponentRange sgn info.pA.g x.g ∧
    ComponentRange sgn info.pA.b x.b

theorem componentRange_bc6hComponent {sgn transformed : Bool} {pA pD : Nat} (base : Int)
    {stored : Nat} (hpA : 1 ≤ pA) (hpD : transformed = false → pD = pA) (h : stored < 2 ^ pD) :
    ComponentRange sgn pA (bc6hComponent sgn transformed pA pD base stored) := by
  cases transformed with
  | false =>
    obtain rfl := hpD rfl
    rw [bc6hComponent_of_not_transformed]
    exact componentRange_stored hpA (Int.natCast_nonneg _) (by exact_mod_cast h)
  | true =>
    rw [bc6hComponent_of_transformed]
    exact componentRange_untransform base hpA _

theorem endpointRange_bc6hEndpoints {info : Bc6hMode} (hinfo : info ∈ bc6hModes) (sgn : Bool)
    {h : Header} (hfits : h.Fits info) {k : Nat} (hk : k < info.tier.endpoints) :
    EndpointRange info sgn ((bc6hEndpoints info sgn h).get k) := by
  obtain ⟨⟨hr, -⟩, ⟨hg, -⟩, ⟨hb, -⟩, hpD⟩ := bc6hModes_precisions info hinfo
  obtain ⟨hfr, hfg, hfb⟩ := hfits k hk
  obtain rfl | h1 := Nat.eq_zero_or_pos k
  · have hstored {stored pA : Nat} (hpA : 1 ≤ pA) (hlt : stored < 2 ^ pA) :
        ComponentRange sgn pA (if sgn then sext pA stored else stored) :=
      componentRange_stored hpA (Int.natCast_nonneg _) (by exact_mod_cast hlt)
    have hE0 : (bc6hEndpoints info sgn h).get 0 = _ := bc6hEndpoints_e0 info sgn h
    rw [hE0]
    cases sgn <;> exact ⟨hstored hr hfr, hstored hg hfg, hstored hb hfb⟩
  · rw [bc6hEndpoints_get info sgn h h1 hk]
    simp only [Bc6hMode.fieldWidth, if_neg h1.ne', if_pos hk] at hfr hfg hfb
    exact ⟨componentRange_bc6hComponent _ hr (fun ht => by rw [hpD ht]) hfr,
      componentRange_bc6hComponent _ hg (fun ht => by rw [hpD ht]) hfg,
      componentRange_bc6hComponent _ hb (fun ht => by rw [hpD ht]) hfb⟩

/-! ### The unquantiser (R153) -/

section
variable {bits : Nat} {c : Int}

theorem unq6h_unsigned_of_wide (h : 15 ≤ bits) : unq6h c bits false = c := by simp [unq6h, h]

theorem unq6h_unsigned_zero (h : bits < 15) : unq6h 0 bits false = 0 := by
  simp [unq6h, Nat.not_le.mpr h]

theorem unq6h_unsigned_max (h : bits < 15) (h0 : 0 < c) (hc : c = 2 ^ bits - 1) :
    unq6h c bits false = 0xFFFF := by
  simp [unq6h, Nat.not_le.mpr h, h0.ne', ← hc]

theorem unq6h_unsigned_scaled (h : bits < 15) (h0 : 0 < c) (hc : c < 2 ^ bits - 1) :
    unq6h c bits false = (c * 2 ^ 16 + 0x8000) / 2 ^ bits := by
  simp [unq6h, Nat.not_le.mpr h, h0.ne', hc.ne]

theorem unq6h_unsigned_range (hbits : bits ≤ 16) (h0 : 0 ≤ c) (hc : c < 2 ^ bits) :
    0 ≤ unq6h c bits false ∧ unq6h c bits false ≤ 65535 := by
  by_cases hwide : 15 ≤ bits
  · have hpow : (2 : Int) ^ bits ≤ 2 ^ 16 := pow_le_pow_right₀ (by decide) hbits
    rw [unq6h_unsigned_of_wide hwide]
    omega
  have hlt := Nat.not_le.mp hwide
  obtain rfl | hpos := h0.eq_or_lt
  · simp [unq6h_unsigned_zero hlt]
  obtain hmax | hmid : c = 2 ^ bits - 1 ∨ c < 2 ^ bits - 1 := by omega
  · simp [unq6h_unsigned_max hlt hpos hmax]
  · rw [unq6h_unsigned_scaled hlt hpos hmid]
    have htwo : (0 : Int) < 2 ^ bits := by positivity
    refine ⟨Int.ediv_nonneg (by omega) htwo.le, Int.le_of_lt_add_one ?_⟩
    exact Int.ediv_lt_of_lt_mul htwo (by omega)

/-- The magnitude that the signed unquantiser gives the magnitude `m` (R153). -/
def unq6hMagnitude (m : Int) (bits : Nat) : Int :=
  if m = 0 then 0
  else if m ≥ 2 ^ (bits - 1) - 1 then 0x7FFF
  else (m * 2 ^ 15 + 0x4000) / 2 ^ (bits - 1)

theorem unq6hMagnitude_max {m : Int} (h0 : 0 < m) (hm : 2 ^ (bits - 1) - 1 ≤ m) :
    unq6hMagnitude m bits = 0x7FFF := by rw [unq6hMagnitude, if_neg h0.ne', if_pos hm]

theorem unq6hMagnitude_scaled {m : Int} (h0 : 0 < m) (hm : m < 2 ^ (bits - 1) - 1) :
    unq6hMagnitude m bits = (m * 2 ^ 15 + 0x4000).fdiv (2 ^ (bits - 1)) := by
  rw [unq6hMagnitude, if_neg h0.ne', if_neg (Int.not_le.mpr hm),
    Int.fdiv_eq_ediv_of_nonneg _ (by positivity)]

theorem unq6h_signed_of_wide (h : 16 ≤ bits) : unq6h c bits true = c := by simp [unq6h, h]

theorem unq6h_signed_of_nonneg (h : bits < 16) (h0 : 0 ≤ c) :
    unq6h c bits true = unq6hMagnitude c bits := by
  simp [unq6h, Nat.not_le.mpr h, Int.not_lt.mpr h0, abs_of_nonneg h0, unq6hMagnitude]

theorem unq6h_signed_of_neg (h : bits < 16) (h0 : c < 0) :
    unq6h c bits true = -unq6hMagnitude (-c) bits := by
  simp [unq6h, Nat.not_le.mpr h, h0, abs_of_neg h0, unq6hMagnitude]

theorem unq6hMagnitude_range {m : Int} (h0 : 0 ≤ m) :
    0 ≤ unq6hMagnitude m bits ∧ unq6hMagnitude m bits ≤ 32767 := by
  have htwo : (0 : Int) < 2 ^ (bits - 1) := by positivity
  unfold unq6hMagnitude
  split
  · decide
  split
  · decide
  · refine ⟨Int.ediv_nonneg (by omega) htwo.le, Int.le_of_lt_add_one ?_⟩
    exact Int.ediv_lt_of_lt_mul htwo (by omega)

theorem unq6h_signed_range (h : bits < 16) : -32767 ≤ unq6h c bits true ∧ unq6h c bits true ≤ 32767 := by
  obtain h0 | h0 := lt_or_ge c 0
  · have hm := unq6hMagnitude_range (bits := bits) (m := -c) (by omega)
    rw [unq6h_signed_of_neg h h0]
    omega
  · have hm := unq6hMagnitude_range (bits := bits) h0
    rw [unq6h_signed_of_nonneg h h0]
    omega

end

/-! ### The endpoints of every header -/

theorem bc6hModes_endpoints_le : ∀ info ∈ bc6hModes, info.tier.endpoints ≤ 4 := by decide

/-- Endpoint 1 belongs to every mode, endpoints 2 and 3 to those of two regions. -/
theorem Tier.one_lt_endpoints (t : Tier) : 1 < t.endpoints := by cases t <;> decide

section
variable {info : Bc6hMode} {sgn : Bool} {h : Header} {k : Nat} (h1 : 1 ≤ k)
  (hk : k < info.tier.endpoints)
include h1 hk

/-- In an untransformed mode another endpoint is the stored value (R232). -/
theorem bc6hEndpoints_get_of_not_transformed (ht : info.transformed = false) :
    (bc6hEndpoints info sgn h).get k =
      if sgn then info.pD.zip sext ((h.endpoint k).map Int.ofNat) else (h.endpoint k).map Int.ofNat := by
  rw [bc6hEndpoints_get info sgn h h1 hk, bc6hOther, ht]
  simp only [bc6hComponent_of_not_transformed]
  cases sgn <;> rfl

/-- In a transformed mode another endpoint is its delta plus `E[0]`, modulo the precision (R233). -/
theorem bc6hEndpoints_get_of_transformed (ht : info.transformed = true) :
    let e := bc6hEndpoints info sgn h
    ((e.get k).r - (sext info.pD.r (h.endpoint k).r + e.e0.r)) % 2 ^ info.pA.r = 0 ∧
      ((e.get k).g - (sext info.pD.g (h.endpoint k).g + e.e0.g)) % 2 ^ info.pA.g = 0 ∧
      ((e.get k).b - (sext info.pD.b (h.endpoint k).b + e.e0.b)) % 2 ^ info.pA.b = 0 := by
  intro e
  rw [bc6hEndpoints_get info sgn h h1 hk, bc6hOther, ht]
  simp only [bc6hComponent_of_transformed]
  exact ⟨untransform_emod .., untransform_emod .., untransform_emod ..⟩

end

/-- Settles O38: the endpoints component by component, then the unquantiser branch by branch. -/
theorem bc6hEndpointsAreLegalUnquantiserInputs :
    Obligations.Bc6hEndpointsAreLegalUnquantiserInputs := by
  unfold Obligations.Bc6hEndpointsAreLegalUnquantiserInputs
  refine ⟨fun info hinfo => ⟨?samePrecision, fun sgn h hstored => ?endpoints⟩, ?sext, ?unsigned, ?signed⟩
  case samePrecision =>
    obtain ⟨-, -, -, hpD⟩ := bc6hModes_precisions info hinfo
    exact hpD
  case endpoints =>
    intro e
    have h2 : info.tier = .one → 2 < info.tier.endpoints := fun ht => ht ▸ by decide
    have h3 : info.tier = .one → 3 < info.tier.endpoints := fun ht => ht ▸ by decide
    have h1 := info.tier.one_lt_endpoints
    refine ⟨fun k hk => ?range, bc6hEndpoints_e0 info sgn h, fun ht => ?plain, fun ht => ?transformed⟩
    case range =>
      have hfits : h.Fits info := by
        intro k hk
        have hstored := hstored k hk
        have hk4 := hk.trans_le (bc6hModes_endpoints_le info hinfo)
        have hr := hstored 0 (by decide)
        have hg := hstored 1 (by decide)
        have hb := hstored 2 (by decide)
        interval_cases k <;>
          simpa [Header.endpoint, Bc6hMode.fieldWidth, hk] using And.intro hr (And.intro hg hb)
      obtain ⟨hr, hg, hb⟩ := endpointRange_bc6hEndpoints hinfo sgn hfits hk
      simp only [List.forall_mem_cons]
      exact ⟨hr, hg, hb, List.forall_mem_nil _⟩
    case plain =>
      exact ⟨bc6hEndpoints_get_of_not_transformed le_rfl h1 ht, fun htier =>
        ⟨bc6hEndpoints_get_of_not_transformed (k := 2) (by decide) (h2 htier) ht,
          bc6hEndpoints_get_of_not_transformed (k := 3) (by decide) (h3 htier) ht⟩⟩
    case transformed =>
      obtain ⟨hr, hg, hb⟩ := bc6hEndpoints_get_of_transformed (sgn := sgn) (h := h) le_rfl h1 ht
      refine ⟨hr, hg, hb, fun htier => ?_⟩
      obtain ⟨hr2, hg2, hb2⟩ :=
        bc6hEndpoints_get_of_transformed (sgn := sgn) (h := h) (k := 2) (by decide) (h2 htier) ht
      exact ⟨hr2, hg2, hb2,
        bc6hEndpoints_get_of_transformed (sgn := sgn) (h := h) (k := 3) (by decide) (h3 htier) ht⟩
  case sext => exact fun bits v h => ⟨sext_emod bits v, sext_range h v⟩
  case unsigned =>
    intro bits c _ h0 hc u
    refine ⟨unq6h_unsigned_of_wide, fun hlt => ⟨?zero, unq6h_unsigned_max hlt, fun hpos htop => ?scaled⟩,
      fun hbits => unq6h_unsigned_range hbits h0 hc⟩
    case zero =>
      rintro rfl
      exact unq6h_unsigned_zero hlt
    case scaled =>
      rw [Int.fdiv_eq_ediv_of_nonneg _ (by positivity)]
      exact unq6h_unsigned_scaled hlt hpos htop
  case signed =>
    intro bits c _ _ _ u top
    refine ⟨unq6h_signed_of_wide, fun hlt => ⟨?zero, fun hpos htop => ?max, fun hpos htop => ?scaled,
      fun hneg htop => ?negMax, fun hneg htop => ?negScaled, unq6h_signed_range hlt⟩⟩
    case zero =>
      rintro rfl
      simp [u, unq6h_signed_of_nonneg hlt, unq6hMagnitude]
    case max => exact (unq6h_signed_of_nonneg hlt hpos.le).trans (unq6hMagnitude_max hpos htop)
    case scaled =>
      exact (unq6h_signed_of_nonneg hlt hpos.le).trans (unq6hMagnitude_scaled hpos htop)
    case negMax =>
      exact (unq6h_signed_of_neg hlt hneg).trans
        (congrArg Neg.neg (unq6hMagnitude_max (Int.neg_pos_of_neg hneg) htop))
    case negScaled =>
      exact (unq6h_signed_of_neg hlt hneg).trans
        (congrArg Neg.neg (unq6hMagnitude_scaled (Int.neg_pos_of_neg hneg) htop))

end Sys2Proof.Machine

/-! SUPPORT. The patterns that `DEC_BC6H` leaves in `PIXH` (44_bc6h_decode.md R243): the range of a channel
through unquantiser, interpolation, final scale and half pattern (41_palette_math.md R153 to R155). -/

namespace Sys2Proof.Machine

/-! ### The final scale and the half pattern (R154, R155) -/

theorem fin6h_unsigned {v : Int} (h0 : 0 ≤ v) (h : v ≤ 65535) :
    fin6h v false = (v * 31).fdiv 64 ∧ 0 ≤ fin6h v false ∧ fin6h v false ≤ 31743 := by
  have hfin : fin6h v false = v * 31 / 64 := rfl
  rw [hfin, Int.fdiv_eq_ediv_of_nonneg _ (by decide)]
  exact ⟨rfl, by omega, by omega⟩

theorem fin6h_signed {v : Int} (hlo : -32768 ≤ v) (hhi : v ≤ 32767) :
    (0 ≤ v → fin6h v true = (v * 31).fdiv 32) ∧ (v < 0 → fin6h v true = -((-v * 31).fdiv 32)) ∧
      -31744 ≤ fin6h v true ∧ fin6h v true ≤ 31743 := by
  simp only [fin6h, Bool.true_eq_false, if_false,
    Int.fdiv_eq_ediv_of_nonneg _ (show (0 : Int) ≤ 32 by decide)]
  omega

theorem half6h_of_nonneg {v : Int} (h0 : 0 ≤ v) (sgn : Bool) : (half6h v sgn : Int) = v := by
  cases sgn <;> simp [half6h, h0, Int.not_lt.mpr h0]

/-- The sign is bit 15, above the bits of every finished magnitude. -/
theorem half6h_of_neg {v : Int} (hlo : -31744 ≤ v) (h0 : v < 0) :
    (half6h v true : Int) = 0x8000 - v := by
  have hlt : (-v).toNat < 2 ^ 15 := by omega
  have hor : 0x8000 ||| (-v).toNat = 0x8000 + (-v).toNat :=
    (Nat.two_pow_add_eq_or_of_lt hlt 1).symm
  simp only [half6h, Bool.true_eq_false, if_false, if_pos h0, hor]
  omega

/-! ### The range of a channel -/

/-- What the final scale takes (R154). -/
def FinishRange (sgn : Bool) (v : Int) : Prop :=
  if sgn then -32768 ≤ v ∧ v ≤ 32767 else 0 ≤ v ∧ v ≤ 65535

theorem finishRange_unq6h {sgn : Bool} {bits : Nat} {c : Int} (hbits : bits ≤ 16)
    (hc : ComponentRange sgn bits c) : FinishRange sgn (unq6h c bits sgn) := by
  cases sgn with
  | false => exact unq6h_unsigned_range hbits hc.1 hc.2
  | true =>
    obtain hlt | rfl := hbits.lt_or_eq
    · have hrange := unq6h_signed_range (c := c) hlt
      exact ⟨by omega, hrange.2⟩
    · obtain ⟨hlo, hhi⟩ : -2 ^ 15 ≤ c ∧ c < 2 ^ 15 := hc
      rw [unq6h_signed_of_wide le_rfl]
      exact ⟨hlo, Int.le_of_lt_add_one hhi⟩

/-- An interpolated value is in every range that holds its endpoints. -/
theorem finishRange_interp {sgn : Bool} {a b : Int} (ha : FinishRange sgn a)
    (hb : FinishRange sgn b) (idx : Nat) (prec : IndexPrec) :
    FinishRange sgn (interp a b idx prec) := by
  obtain ⟨hmin, hmax⟩ := interp_between a b idx prec
  cases sgn with
  | false | true => exact ⟨(le_min ha.1 hb.1).trans hmin, hmax.trans (max_le ha.2 hb.2)⟩

/-- The patterns a colour channel can have (R243). -/
def HalfPattern (sgn : Bool) (x : Nat) : Prop :=
  x ≤ 0x7BFF ∨ sgn = true ∧ 0x8001 ≤ x ∧ x ≤ 0xFC00

theorem halfPattern_finished {sgn : Bool} {v : Int} (hv : FinishRange sgn v) :
    HalfPattern sgn (half6h (fin6h v sgn) sgn) := by
  cases sgn with
  | false =>
    obtain ⟨-, h0, hle⟩ := fin6h_unsigned hv.1 hv.2
    have hhalf := half6h_of_nonneg h0 false
    exact .inl (by omega)
  | true =>
    obtain ⟨-, -, hlo, hhi⟩ := fin6h_signed hv.1 hv.2
    obtain h0 | h0 := lt_or_ge (fin6h v true) 0
    · have hhalf := half6h_of_neg hlo h0
      exact .inr ⟨rfl, by omega, by omega⟩
    · have hhalf := half6h_of_nonneg h0 true
      exact .inl (by omega)

theorem HalfPattern.toNat_ofNat {sgn : Bool} {x : Nat} (h : HalfPattern sgn x) :
    HalfPattern sgn (BitVec.ofNat 16 x).toNat := by
  have hlt : x < 2 ^ 16 := by
    unfold HalfPattern at h
    omega
  rwa [BitVec.toNat_ofNat, Nat.mod_eq_of_lt hlt]

/-- Alpha is 1.0 and the colour channels are of the stated patterns (R241, R243). -/
def PixelPatterns (sgn : Bool) (p : Pixel Half) : Prop :=
  p.a = 0x3C00 ∧ ∀ c ∈ [Channel.r, .g, .b], HalfPattern sgn (p.get c).toNat

theorem pixelPatterns_bc6hPixel {info : Bc6hMode} (hinfo : info ∈ bc6hModes) {sgn : Bool}
    {e : Endpoints} {d i : Nat} (idx : Nat)
    (hA : EndpointRange info sgn (e.get (2 * regionOf .bc6h info.tier d i)))
    (hB : EndpointRange info sgn (e.get (2 * regionOf .bc6h info.tier d i + 1))) :
    PixelPatterns sgn (bc6hPixel info sgn e d i idx) := by
  obtain ⟨⟨-, hr⟩, ⟨-, hg⟩, ⟨-, hb⟩, -⟩ := bc6hModes_precisions info hinfo
  obtain ⟨hAr, hAg, hAb⟩ := hA
  obtain ⟨hBr, hBg, hBb⟩ := hB
  have hchannel {pA : Nat} {a b : Int} (hpA : pA ≤ 16) (ha : ComponentRange sgn pA a)
      (hb : ComponentRange sgn pA b) :
      HalfPattern sgn (BitVec.ofNat 16 (bc6hChannel info sgn idx pA a b)).toNat :=
    (halfPattern_finished (finishRange_interp (finishRange_unq6h hpA ha) (finishRange_unq6h hpA hb)
      idx info.ip)).toNat_ofNat
  refine ⟨rfl, ?_⟩
  simp only [List.forall_mem_cons]
  exact ⟨hchannel hr hAr hBr, hchannel hg hAg hBg, hchannel hb hAb hBb, List.forall_mem_nil _⟩

/-! ### The whole block -/

theorem bc6hModes_tier : ∀ info ∈ bc6hModes,
    info.tier = .zero ∨ info.tier = .one ∧ info.fieldWidth .d = 5 := by decide

/-- The region of a pixel is one of the mode's. -/
theorem regionOf_bc6h_lt {info : Bc6hMode} (hinfo : info ∈ bc6hModes) {d i : Nat}
    (hd : d < 2 ^ info.fieldWidth .d) (hi : i < 16) :
    2 * regionOf .bc6h info.tier d i + 1 < info.tier.endpoints := by
  obtain htier | ⟨htier, hwidth⟩ := bc6hModes_tier info hinfo
  · rw [htier]
    exact Nat.lt_succ_self 1
  · rw [hwidth] at hd
    have hregion := (regionOf_bc6h_wellFormed d hd).1 i hi
    rw [htier, show Tier.one.endpoints = 4 from rfl]
    omega

theorem Header.fits_of_field_lt {h : Header} {info : Bc6hMode} (hinfo : info ∈ bc6hModes)
    (hlt : ∀ f ∈ headerFields, f ≠ .m → h.field f < 2 ^ info.fieldWidth f) : h.Fits info := by
  intro k hk
  obtain ⟨hr, hg, hb⟩ :=
    mem_headerFields_of_lt_four (hk.trans_le (bc6hModes_endpoints_le info hinfo))
  exact ⟨hlt _ hr nofun, hlt _ hg nofun, hlt _ hb nofun⟩

/-- `DEC_BC6H` leaves only pixels of the stated patterns. -/
theorem completes_decBc6h_patterns (sgn : Bool) (s : State) :
    Completes (.decBc6h sgn) s fun t => ∀ i : Fin 16, PixelPatterns sgn t.pixh[i] := by
  by_cases hreserved : (s.blk[0]).toNat &&& 0x13 = 0x13
  · obtain ⟨t, ht, hpixels, -⟩ := completes_decBc6h_of_reserved (sgn := sgn) hreserved
    refine ⟨t, ht, fun i => ?_⟩
    rw [hpixels i]
    exact ⟨rfl, by simp [Pixel.get, HalfPattern]⟩
  · obtain ⟨row, hrow, hexec⟩ := exists_bc6hRow_of_valid (sgn := sgn) hreserved
    obtain ⟨h, idx, -, hlt, hemit⟩ := exec_bc6hRow_walk hrow s
    have hinfo := bc6hRows_mode_mem sgn row hrow
    have hfits := Header.fits_of_field_lt hinfo hlt
    refine ⟨_, hexec.trans hemit, fun i => ?_⟩
    have hd : h.d < 2 ^ row.2.fieldWidth .d := hlt .d (by decide) nofun
    have hregion := regionOf_bc6h_lt hinfo hd i.isLt
    have hpatterns := pixelPatterns_bc6hPixel hinfo (idx.getD i 0)
      (endpointRange_bc6hEndpoints hinfo sgn hfits (Nat.lt_of_succ_lt hregion))
      (endpointRange_bc6hEndpoints hinfo sgn hfits hregion)
    simpa [bc6hEmit] using hpatterns

/-- Settles O40: each stage keeps its range, from the endpoints of the block to the pattern. -/
theorem pixhHoldsOnlyTheStatedPatterns : Obligations.PixhHoldsOnlyTheStatedPatterns := by
  unfold Obligations.PixhHoldsOnlyTheStatedPatterns
  exact ⟨completes_decBc6h_patterns, fun v h0 h => fin6h_unsigned h0 h,
    fun v hlo hhi => fin6h_signed hlo hhi,
    fun v => ⟨fun h0 _ sgn => half6h_of_nonneg h0 sgn, fun hlo h0 => half6h_of_neg hlo h0⟩⟩

end Sys2Proof.Machine

/-! SUPPORT. The walk of a BC7 block (45_bc7_decode.md R265 to R273): the fields of the header one behind
the other, then the index planes, up to bit 128. -/

namespace Sys2Proof.Machine

/-! ### Header fields -/

theorem Block.memRead_one (b : Block) (p : Nat) : b.memRead p 1 = b.bit p := by
  simp [Block.memRead]

/-- A field of value zero has only zero bits. -/
theorem Block.bit_eq_zero_of_memRead {b : Block} {p n : Nat} (h : b.memRead p n = 0) :
    ∀ k < n, b.bit (p + k) = 0 := by
  induction n with
  | zero => exact fun k hk => absurd hk (Nat.not_lt_zero k)
  | succ n ih =>
    rw [Block.memRead, Nat.add_eq_zero_iff] at h
    obtain ⟨hlow, hbit⟩ := h
    intro k hk
    obtain hk | rfl := Nat.lt_succ_iff_lt_or_eq.mp hk
    · exact ih hlow k hk
    · exact (Nat.mul_eq_zero.mp hbit).resolve_right (Nat.two_pow_pos k).ne'

/-- A field of `n + 1` bits whose value is `2 ^ n`: zeros and then a one. -/
theorem Block.bits_of_memRead_eq_two_pow (b : Block) {p n : Nat} (h : b.memRead p (n + 1) = 2 ^ n) :
    (∀ k < n, b.bit (p + k) = 0) ∧ b.bit (p + n) = 1 := by
  have hlow := b.memRead_lt p n
  have hbit := b.bit_lt (p + n)
  rw [Block.memRead] at h
  obtain h0 | h1 : b.bit (p + n) = 0 ∨ b.bit (p + n) = 1 := by omega
  · rw [h0] at h
    omega
  · rw [h1] at h
    exact ⟨Block.bit_eq_zero_of_memRead (by omega), h1⟩

/-- The stored fields of one channel, or its default where the mode stores none (R268). -/
def Block.channelFields (b : Block) (ne prec pos : Nat) : List Nat :=
  if prec > 0 then b.fields (List.replicate ne prec) pos else List.replicate ne 255

theorem readChannel_eq (b : Block) {ne prec pos : Nat} (h8 : prec ≤ 8)
    (h : pos + ne * prec ≤ 128) :
    readChannel b ne prec pos = .ok (b.channelFields ne prec pos) (pos + ne * prec) := by
  rw [readChannel, Block.channelFields]
  split
  case isTrue =>
    have hsum : (List.replicate ne prec).sum = ne * prec := by simp
    rw [readFields_eq b (fun n hn => (List.eq_of_mem_replicate hn).trans_le h8) (hsum ▸ h), hsum]
  case isFalse hprec => rw [Nat.eq_zero_of_not_pos hprec, Nat.mul_zero, Nat.add_zero]

/-- The bits of the fields before the index planes. -/
def Bc7Mode.headerBits (info : Bc7Mode) : Nat :=
  info.sb + info.rb + info.ib +
    info.tier.endpoints * (info.prec.r + info.prec.g + info.prec.b + info.prec.a) + info.np

/-- The fields of a header that starts at bit `pos` (R260, R267 to R269). -/
def Block.bc7Fields (b : Block) (info : Bc7Mode) (pos : Nat) : Bc7Fields :=
  let ne := info.tier.endpoints
  let rot := pos + info.sb
  let isel := rot + info.rb
  let r := isel + info.ib
  let g := r + ne * info.prec.r
  let bl := g + ne * info.prec.g
  let a := bl + ne * info.prec.b
  let p := a + ne * info.prec.a
  { shape := b.memRead pos info.sb
    rot := b.memRead rot info.rb
    isel := b.memRead isel info.ib
    r := b.channelFields ne info.prec.r r
    g := b.channelFields ne info.prec.g g
    b := b.channelFields ne info.prec.b bl
    a := b.channelFields ne info.prec.a a
    pbits := (List.range info.np).map fun k => b.memRead (p + k) 1 }

theorem bc7Modes_prec_le (c : Channel) : ∀ info ∈ bc7Modes, info.prec.get c ≤ 8 := by
  cases c <;> decide

theorem bc7Header_eq {info : Bc7Mode} (hinfo : info ∈ bc7Modes) (b : Block) {pos : Nat}
    (h : pos + info.headerBits ≤ 128) :
    bc7Header info b pos = .ok (b.bc7Fields info pos) (pos + info.headerBits) := by
  obtain ⟨hsb, hrb, hib⟩ := bc7Modes_fields_le info hinfo
  have hr : info.prec.r ≤ 8 := bc7Modes_prec_le .r info hinfo
  have hg : info.prec.g ≤ 8 := bc7Modes_prec_le .g info hinfo
  have hb : info.prec.b ≤ 8 := bc7Modes_prec_le .b info hinfo
  have ha : info.prec.a ≤ 8 := bc7Modes_prec_le .a info hinfo
  simp only [Bc7Mode.headerBits, Nat.mul_add] at h ⊢
  have hend : pos + info.sb + info.rb + info.ib + info.tier.endpoints * info.prec.r +
      info.tier.endpoints * info.prec.g + info.tier.endpoints * info.prec.b +
      info.tier.endpoints * info.prec.a + info.np ≤ 128 := by omega
  simp only [bc7Header]
  rw [getBits_ok b hsb (by omega), Walk.bind_ok, getBits_ok b hrb (by omega), Walk.bind_ok,
    getBits_ok b hib (by omega), Walk.bind_ok, readChannel_eq b hr (by omega), Walk.bind_ok,
    readChannel_eq b hg (by omega), Walk.bind_ok, readChannel_eq b hb (by omega), Walk.bind_ok,
    readChannel_eq b ha (by omega), Walk.bind_ok, readBits_eq b _ _ hend, Walk.bind_ok]
  simp only [Block.bc7Fields, Block.memRead_one]
  congr 1
  omega

/-- The index planes take what the prefix and the header leave of the block. -/
theorem bc7Modes_planes : ∀ info ∈ bc7Modes,
    info.mode + 1 + info.headerBits + 16 * info.ip.bits + info.ip2.elim 0 (fun ip2 => 16 * ip2.bits - 1) =
      128 + (info.tier.toNat + 1) := by decide

/-! ### Index planes -/

/-- The primary plane from bit `p` on ends where its widths sum up to (R272). -/
theorem bc7Primary_eq (info : Bc7Mode) (b : Block) {shape p q : Nat} (hshape : shape < 64)
    (hq : q ≤ 128) (h : p + 16 * info.ip.bits = q + (info.tier.toNat + 1)) :
    bc7Primary info b shape p =
      .ok (b.fields (indexWidths info.ip.bits (isFixup info.tier shape) 16 0) p) q := by
  have hplane := planeWidth_isFixup info.ip info.tier hshape
  have hsum : p + planeWidth info.ip.bits (isFixup info.tier shape) 16 0 = q := by omega
  rw [bc7Primary, readIndices_eq b _ 16 0 info.ip.bits_le (hsum.trans_le hq), hsum]

theorem primaryFrom_of_fits (info : Bc7Mode) (b : Block) {shape p q : Nat} (hshape : shape < 64)
    (hq : q ≤ 128) (h : p + 16 * info.ip.bits = q + (info.tier.toNat + 1)) :
    primaryFrom info b shape p q :=
  ⟨_, bc7Primary_eq info b hshape hq h, by simp,
    fun i hi => primaryFields_getD b info.ip info.tier shape p hi⟩

/-- Of the first `n` pixels of the secondary plane one is short, the first (R273). -/
theorem length_filter_first : ∀ n ≤ 16, 1 ≤ n →
    ((List.range' 0 n).filter fun i => i == 0).length = 1 := by decide

theorem planeWidth_first (ip : IndexPrec) {n : Nat} (h1 : 1 ≤ n) (hn : n ≤ 16) :
    planeWidth ip.bits (fun i => i == 0) n 0 = ip.bits * n - 1 := by
  have hcount := planeWidth_add_length_filter ip.one_le_bits (fun i => i == 0) n 0
  rw [length_filter_first n hn h1, Nat.mul_comm] at hcount
  omega

theorem bc7Secondary_eq {info : Bc7Mode} (b : Block) {ip2 : IndexPrec} {p : Nat}
    (hip2 : info.ip2 = some ip2) (h : p + (16 * ip2.bits - 1) = 128) :
    bc7Secondary info b p =
      .ok (b.fields (indexWidths ip2.bits (fun i => i == 0) 16 0) p) 128 := by
  have hsum : p + planeWidth ip2.bits (fun i => i == 0) 16 0 = 128 := by
    rw [planeWidth_first ip2 (by decide) le_rfl, Nat.mul_comm]
    exact h
  simp only [bc7Secondary, hip2]
  rw [readIndices_eq b _ 16 0 ip2.bits_le hsum.le, hsum]

theorem secondaryFrom_of_fits {info : Bc7Mode} (b : Block) {ip2 : IndexPrec} {p : Nat}
    (hip2 : info.ip2 = some ip2) (h : p + (16 * ip2.bits - 1) = 128) :
    secondaryFrom info b ip2.bits p := by
  have hfields {i : Nat} (hi : i < 16) := b.fields_getD
    (indexWidths ip2.bits (fun i => i == 0) 16 0) p (i := i) (by simpa using hi)
  refine ⟨_, bc7Secondary_eq b hip2 h, by simp, ?first, fun i h1 hi => ?later⟩
  case first =>
    rw [hfields (by decide), indexWidths_getD _ _ (by decide)]
    rfl
  case later =>
    have hwidth : indexWidth ip2.bits (fun i => i == 0) (0 + i) = ip2.bits := by
      simp [indexWidth, Nat.ne_of_gt h1]
    rw [hfields hi, indexWidths_getD _ _ hi, hwidth, take_indexWidths _ _ hi.le, sum_indexWidths,
      planeWidth_first ip2 h1 hi.le]

/-- Settles O44: the header's fields follow one another from the prefix on, and the planes follow them. -/
theorem bc7FieldsLieWhereTheLayoutTableSays : Obligations.Bc7FieldsLieWhereTheLayoutTableSays := by
  unfold Obligations.Bc7FieldsLieWhereTheLayoutTableSays
  intro b
  have hheader {info : Bc7Mode} (hinfo : info ∈ bc7Modes) {pos : Nat} := bc7Header_eq hinfo b (pos := pos)
  have hprimary {info : Bc7Mode} {p q : Nat} (hq : q ≤ 128)
      (h : p + 16 * info.ip.bits = q + (info.tier.toNat + 1)) (shape : Nat) (hshape : shape < 64) :=
    primaryFrom_of_fits info b hshape hq h
  refine ⟨fun m hm h => ?mode,
    hheader (info := bc7Info0) (by decide) (by decide), hprimary (by decide) (by decide),
    hheader (info := bc7Info1) (by decide) (by decide), hprimary (by decide) (by decide),
    hheader (info := bc7Info2) (by decide) (by decide), hprimary (by decide) (by decide),
    hheader (info := bc7Info3) (by decide) (by decide), hprimary (by decide) (by decide),
    hheader (info := bc7Info4) (by decide) (by decide), hprimary (by decide) (by decide),
    secondaryFrom_of_fits b (ip2 := .three) rfl rfl,
    hheader (info := bc7Info5) (by decide) (by decide), hprimary (by decide) (by decide),
    secondaryFrom_of_fits b (ip2 := .two) rfl rfl,
    hheader (info := bc7Info6) (by decide) (by decide), hprimary (by decide) (by decide),
    hheader (info := bc7Info7) (by decide) (by decide), hprimary (by decide) (by decide)⟩
  case mode =>
    obtain ⟨hzero, hone⟩ := b.bits_of_memRead_eq_two_pow h
    have hscan := bc7ModeScan_of_one hm 0 (pos := 0) (by decide) hzero hone
    rwa [Nat.zero_add] at hscan

end Sys2Proof.Machine

/-! SUPPORT. `DEC_BC7` as a whole (45_bc7_decode.md R264, R266, R270, R271, R281): a block of zero mode
bits gives transparent black, every other block is walked to its end. -/

namespace Sys2Proof.Machine

/-! ### The reserved mode -/

theorem completes_bc7Reserved (s : State) : Completes .bc7Reserved s fun t =>
    (∀ k : Fin 16, t.pix8[k] = ⟨0, 0, 0, 0⟩) ∧ t.pos = 8 ∧ t.stat = 0x00000801 ∧
      t.warn = s.warn ||| 1 ∧ t.blk = s.blk ∧ t.pixh = s.pixh ∧ t.val = s.val ∧
      t.fatal = s.fatal ∧ KeepsHostSide s t := by
  have hstat : statWord .badMode 8 = 0x00000801 := rfl
  refine ⟨_, rfl, fun k => ?_, by simp, by simp [hstat], by simp [warnWith_badMode], by simp, by simp,
    by simp, by simp, keepsHostSide_errorAction s ..⟩
  simp [bc7ErrorPixel]

/-- Settles O42: the command reaches the reserved row exactly on a zero byte. -/
theorem bc7ReservedBlocksGiveTransparentBlack :
    Obligations.Bc7ReservedBlocksGiveTransparentBlack := by
  unfold Obligations.Bc7ReservedBlocksGiveTransparentBlack
  rintro s i (⟨rfl, hzero⟩ | rfl)
  · rw [Completes, exec_decBc7_eq_layout, hzero]
    exact completes_bc7Reserved s
  · exact completes_bc7Reserved s

/-! ### The blocks of a mode -/

/-- Where the header of a mode ends (R281). -/
def Bc7Mode.headerEnd (info : Bc7Mode) : Nat := info.mode + 1 + info.headerBits

theorem Tier.toNat_le (t : Tier) : t.toNat ≤ 2 := by cases t <;> decide

theorem bc7Modes_shapes_le : ∀ info ∈ bc7Modes, 2 ^ info.sb ≤ 64 := by decide

section
variable {info : Bc7Mode} (hinfo : info ∈ bc7Modes) (b : Block)
include hinfo

theorem bc7Header_ok :
    bc7Header info b (info.mode + 1) = .ok (b.bc7Fields info (info.mode + 1)) info.headerEnd := by
  refine bc7Header_eq hinfo b ?_
  have hplanes := bc7Modes_planes info hinfo
  have hip := info.ip.one_le_bits
  have htier := info.tier.toNat_le
  omega

/-- The walk, where the primary plane ends at bit `q` and the secondary one, if any, from there. -/
theorem bc7Walk_of_planes {q : Nat} {w2 : List Nat} (hq : q ≤ 128)
    (hprimary : info.headerEnd + 16 * info.ip.bits = q + (info.tier.toNat + 1))
    (hsecondary : bc7Secondary info b q = .ok w2 128) : ∃ (x : Bc7Fields) (w1 : List Nat),
    bc7Walk info b = .ok (x, w1, w2) 128 ∧ w1.length = 16 ∧ ∀ w ∈ w1, w < 2 ^ info.ip.bits := by
  have hshape : (b.bc7Fields info (info.mode + 1)).shape < 64 :=
    (b.memRead_lt _ _).trans_le (bc7Modes_shapes_le info hinfo)
  have hheader := bc7Header_ok hinfo b
  generalize b.bc7Fields info (info.mode + 1) = x at hshape hheader
  refine ⟨x, b.fields (indexWidths info.ip.bits (isFixup info.tier x.shape) 16 0) info.headerEnd, ?walk,
    by simp, fun w hw => lt_of_mem_fields_indexWidths b hw⟩
  case walk =>
    rw [bc7Walk, hheader, Walk.bind_ok, bc7Primary_eq info b hshape hq hprimary, Walk.bind_ok,
      hsecondary, Walk.bind_ok]

/-- The walk of a block of a mode succeeds and ends at bit 128. -/
theorem bc7Walk_ok : ∃ (x : Bc7Fields) (w1 w2 : List Nat),
    bc7Walk info b = .ok (x, w1, w2) 128 ∧ w1.length = 16 ∧ ∀ w ∈ w1, w < 2 ^ info.ip.bits := by
  have hplanes : info.headerEnd + 16 * info.ip.bits + _ = _ := bc7Modes_planes info hinfo
  suffices ∃ (w2 : List Nat) (x : Bc7Fields) (w1 : List Nat),
      bc7Walk info b = .ok (x, w1, w2) 128 ∧ w1.length = 16 ∧ ∀ w ∈ w1, w < 2 ^ info.ip.bits by
    obtain ⟨w2, x, w1, hwalk⟩ := this
    exact ⟨x, w1, w2, hwalk⟩
  cases hip2 : info.ip2 with
  | none =>
    rw [hip2, Option.elim_none] at hplanes
    exact ⟨_, bc7Walk_of_planes hinfo b le_rfl (by omega) (by rw [bc7Secondary, hip2])⟩
  | some ip2 =>
    have hbits := ip2.bits_le
    rw [hip2, Option.elim_some] at hplanes
    exact ⟨_, bc7Walk_of_planes hinfo b (q := 128 - (16 * ip2.bits - 1)) (by omega) (by omega)
      (bc7Secondary_eq b hip2 (by omega))⟩

end

theorem keepsAllButPix8_bc7Emit (info : Bc7Mode) (s : State) (x : Bc7Fields × List Nat × List Nat) :
    KeepsAllButPix8 s (bc7Emit info s x) := by
  simp [bc7Emit, KeepsAllButPix8, KeepsHostSide]

/-- The end of a command writes only `POS` and `STAT` (R82 step 4). -/
theorem KeepsAllButPix8.setPos_complete {s t : State} (h : KeepsAllButPix8 s t) (p : Nat) :
    KeepsAllButPix8 s (t.setPos p).complete := h

section
variable {row : Instr × Bc7Mode} (hrow : row ∈ bc7Rows) (s : State)
include hrow

/-- A mode row emits the pixels of its walk, which ends at bit 128. -/
theorem exec_bc7Row_walk : ∃ (x : Bc7Fields) (w1 w2 : List Nat),
    bc7Walk row.2 s.blk = .ok (x, w1, w2) 128 ∧ w1.length = 16 ∧ (∀ w ∈ w1, w < 2 ^ row.2.ip.bits) ∧
    exec row.1 s = .next ((bc7Emit row.2 s (x, w1, w2)).setPos 128).complete := by
  obtain ⟨x, w1, w2, hwalk, hlen, hlt⟩ := bc7Walk_ok (bc7Rows_mode_mem row hrow) s.blk
  refine ⟨x, w1, w2, hwalk, hlen, hlt, ?_⟩
  rw [exec_bc7Row s row hrow, bc7Decode, hwalk, State.finish_ok]

theorem completes_bc7Row : Completes row.1 s fun t => EndsAt t 128 ∧ KeepsAllButPix8 s t := by
  obtain ⟨x, w1, w2, -, -, -, hexec⟩ := exec_bc7Row_walk hrow s
  exact ⟨_, hexec, endsAt_complete _ (by decide), (keepsAllButPix8_bc7Emit _ s _).setPos_complete 128⟩

end

/-- Settles O45: the pixels a row emits are those of its walk. -/
theorem bc7ModeRowsEmitTheirPixels : Obligations.Bc7ModeRowsEmitTheirPixels := by
  unfold Obligations.Bc7ModeRowsEmitTheirPixels
  intro s row hrow
  obtain ⟨x, w1, w2, hwalk, hlen, hlt, hexec⟩ := exec_bc7Row_walk hrow s
  refine ⟨x, w1, w2, hwalk, hlen, hlt, _, hexec, fun i => ?_, endsAt_complete _ (by decide),
    (keepsAllButPix8_bc7Emit _ s _).setPos_complete 128⟩
  cases hip2 : row.2.ip2 <;> simp [bc7Emit, bc7Pixel, bc7Interp, hip2]

theorem completes_decBc7_of_ne_zero {s : State} (h : s.blk[0] ≠ 0) :
    Completes .decBc7 s fun t => EndsAt t 128 ∧ KeepsAllButPix8 s t := by
  obtain ⟨-, hrow⟩ | ⟨hzero, -⟩ := bc7Layout_cases s.blk[0]
  · obtain ⟨row, hrow, hfst⟩ := List.mem_map.mp hrow
    rw [Completes, exec_decBc7_eq_layout, ← hfst]
    exact completes_bc7Row hrow s
  · exact absurd hzero h

/-- Settles O43: a byte other than zero selects a row whose walk succeeds, so that the one error is that
of the reserved mode. -/
theorem validBc7BlocksDecodeToBit128 : Obligations.ValidBc7BlocksDecodeToBit128 := by
  unfold Obligations.ValidBc7BlocksDecodeToBit128
  refine ⟨fun s h => completes_decBc7_of_ne_zero h, fun s t h => ?cause, fun info hinfo b =>
    ⟨b.bc7Fields info (info.mode + 1), ?header⟩⟩
  case cause =>
    by_cases hzero : s.blk[0] = 0
    · rw [exec_decBc7_eq_layout, hzero] at h
      obtain rfl := Host.Outcome.next.inj h
      exact .inr (s.errorAction_statCause ..)
    · obtain ⟨u, hu, ⟨-, hstat⟩, -⟩ := completes_decBc7_of_ne_zero hzero
      obtain rfl : u = t := Host.Outcome.next.inj (hu.symm.trans h)
      exact .inl (statCause_of_stat_eq_zero hstat)
  case header =>
    have hplanes : info.headerEnd + 16 * info.ip.bits + _ = _ := bc7Modes_planes info hinfo
    have hip := info.ip.one_le_bits
    have htier := info.tier.toNat_le
    rw [bc7Header_ok hinfo b]
    congr 1
    cases hip2 : info.ip2 <;> simp only [hip2, Option.elim] at hplanes ⊢ <;> omega

/-! ### The endpoints (R264, R270, R271) -/

/-- The stored values of one channel of the endpoints. -/
def Bc7Fields.channel (x : Bc7Fields) : Channel → List Nat
  | .r => x.r
  | .g => x.g
  | .b => x.b
  | .a => x.a

theorem bc7Endpoint_get (info : Bc7Mode) (x : Bc7Fields) (e : Nat) (c : Channel) :
    (bc7Endpoint info x e).get c = bc7Unquant (info.precP.get c)
      (spliceP info (bc7Pbit info x.pbits e) (info.prec.get c) (info.precP.get c)
        ((x.channel c).getD e 0)) := by cases c <;> rfl

/-- A channel that is not stored is 255 at every endpoint (R268). -/
theorem bc7Fields_channel_of_not_stored (b : Block) (info : Bc7Mode) (pos : Nat) {c : Channel}
    {e : Nat} (hprec : info.prec.get c = 0) (he : e < info.tier.endpoints) :
    ((b.bc7Fields info pos).channel c).getD e 0 = 255 := by
  cases c <;> simp_all [Block.bc7Fields, Bc7Fields.channel, Pixel.get, Block.channelFields]

/-- A P-bit is a bit. -/
theorem bc7Pbit_lt (b : Block) (info : Bc7Mode) (pos e : Nat) :
    bc7Pbit info (b.bc7Fields info pos).pbits e < 2 := by
  have hbits : ∀ p ∈ (b.bc7Fields info pos).pbits, p < 2 := by
    intro p hp
    obtain ⟨k, -, rfl⟩ := List.mem_map.mp hp
    exact b.memRead_lt _ 1
  rw [bc7Pbit, List.getD_eq_getElem?_getD]
  cases hget : (b.bc7Fields info pos).pbits[e * info.np / info.tier.endpoints]? with
  | none => exact Nat.two_pos
  | some p => exact hbits p (List.mem_of_getElem? hget)

section
variable {info : Bc7Mode} (hinfo : info ∈ bc7Modes) {c : Channel}
include hinfo

theorem precP_pos_of_stored (hprec : 0 < info.prec.get c) : 0 < info.precP.get c := by
  rw [bc7Modes_precP c info hinfo]
  split <;> omega

/-- The P-bits widen only where the mode has some. -/
theorem np_pos_of_widened (hne : info.prec.get c ≠ info.precP.get c) : 0 < info.np := by
  rw [bc7Modes_precP c info hinfo] at hne
  by_contra hnp
  exact hne (if_neg fun h => hnp h.1).symm

/-- A stored channel whose precision a P-bit widens. -/
theorem bc7Endpoint_get_of_widened (x : Bc7Fields) (e : Nat) (hprec : 0 < info.prec.get c)
    (hne : info.prec.get c ≠ info.precP.get c) :
    (bc7Endpoint info x e).get c =
      unq7 ((x.channel c).getD e 0 <<< 1 ||| bc7Pbit info x.pbits e) (info.precP.get c) := by
  rw [bc7Endpoint_get, bc7Unquant, if_pos (precP_pos_of_stored hinfo hprec), spliceP,
    if_pos ⟨np_pos_of_widened hinfo hne, hne⟩, Nat.shiftLeft_eq, pow_one]

theorem bc7Endpoint_get_of_plain (x : Bc7Fields) (e : Nat) (hprec : 0 < info.prec.get c)
    (heq : info.prec.get c = info.precP.get c) :
    (bc7Endpoint info x e).get c = unq7 ((x.channel c).getD e 0) (info.precP.get c) := by
  rw [bc7Endpoint_get, bc7Unquant, if_pos (precP_pos_of_stored hinfo hprec), spliceP,
    if_neg fun h => h.2 heq]

/-- A channel that is not stored has neither a P-bit nor an unquantiser. -/
theorem bc7Endpoint_get_of_not_stored (b : Block) (pos : Nat) {e : Nat}
    (he : e < info.tier.endpoints) (hprec : info.prec.get c = 0) :
    (bc7Endpoint info (b.bc7Fields info pos) e).get c = 255 := by
  have hprecP := bc7Modes_precP_eq_zero hinfo hprec
  rw [bc7Endpoint_get, hprecP, hprec, bc7Unquant, if_neg (Nat.lt_irrefl 0), spliceP,
    if_neg fun h => h.2 rfl, bc7Fields_channel_of_not_stored b info pos hprec he]

theorem bc7Endpoint_get_lt (b : Block) (pos : Nat) {e : Nat} (he : e < info.tier.endpoints) :
    (bc7Endpoint info (b.bc7Fields info pos) e).get c < 256 := by
  obtain hprec | hprec := Nat.eq_zero_or_pos (info.prec.get c)
  · rw [bc7Endpoint_get_of_not_stored hinfo b pos he hprec]
    decide
  · rw [bc7Endpoint_get, bc7Unquant, if_pos (precP_pos_of_stored hinfo hprec)]
    exact unq7_lt _ _

end

theorem Tier.endpoints_pos (t : Tier) : 0 < t.endpoints := by cases t <;> decide

/-- With one P-bit per endpoint, endpoint `e` has number `e` (R264). -/
theorem bc7Pbit_of_np_eq_endpoints {info : Bc7Mode} (h : info.np = info.tier.endpoints)
    (pbits : List Nat) (e : Nat) : bc7Pbit info pbits e = pbits.getD e 0 := by
  rw [bc7Pbit, h, Nat.mul_div_cancel _ info.tier.endpoints_pos]

/-- Settles O46: a channel is unquantised from its stored field and P-bit, or 255 where it has none. -/
theorem bc7EndpointsAreBytesAndDefaultAlphaIs255 :
    Obligations.Bc7EndpointsAreBytesAndDefaultAlphaIs255 := by
  unfold Obligations.Bc7EndpointsAreBytesAndDefaultAlphaIs255
  refine ⟨fun info hinfo b x pos hread e he => ?fields,
    fun info _ h pb e _ => bc7Pbit_of_np_eq_endpoints h pb e, fun pb => ⟨rfl, rfl, rfl, rfl⟩⟩
  case fields =>
    obtain rfl : b.bc7Fields info (info.mode + 1) = x := by
      rw [bc7Header_ok hinfo b, Walk.ok.injEq] at hread
      exact hread.1
    refine ⟨fun c => bc7Endpoint_get_lt hinfo b _ he, fun c hprec => ?stored,
      bc7Endpoint_get_of_not_stored hinfo (c := .a) b _ he⟩
    have hwidened := bc7Endpoint_get_of_widened hinfo (b.bc7Fields info (info.mode + 1)) e hprec
    have hplain := bc7Endpoint_get_of_plain hinfo (b.bc7Fields info (info.mode + 1)) e hprec
    cases c <;> exact ⟨bc7Pbit_lt b info _ e, hwidened, hplain⟩

end Sys2Proof.Machine

/-! SUPPORT. Everything an instruction can do (10_state.md R36, 60_exceptions.md R341, R346), and from it which
registers it writes, what it leaves in the status registers, and that a step always has a next state. -/

namespace Sys2Proof.Machine

/-! ### The commands that decode or encode at once -/

section
variable (s : State)

theorem exec_decBc1 (f4 : Bool) : exec (.decBc1 f4) s =
    .next ((s.setPix8 fun i => bytePixel (decodeBc1 s.blk 0 f4 i)).setPos 64).complete := rfl

theorem exec_decBc2 : exec .decBc2 s =
    .next ((s.setPix8 fun i =>
      bytePixel { decodeBc1 s.blk 8 true i with a := exp4 (s.blk.bc2Alpha i) }).setPos 128).complete := rfl

theorem exec_decBc3 : exec .decBc3 s =
    .next ((s.setPix8 fun i =>
      bytePixel { decodeBc1 s.blk 8 true i with a := decodeBc4 s.blk 0 0 i }).setPos 128).complete := rfl

theorem exec_decBc4 (bias : Byte) (c : Channel) : exec (.decBc4 bias c) s =
    .next ((s.setPix8Channel c fun i =>
      BitVec.ofNat 8 (decodeBc4 s.blk 0 bias.toNat i)).setPos 64).complete := rfl

theorem exec_decBc5 (bias : Byte) : exec (.decBc5 bias) s =
    .next (((s.setPix8Channel .r fun i => BitVec.ofNat 8 (decodeBc4 s.blk 0 bias.toNat i)).setPix8Channel
      .g fun i => BitVec.ofNat 8 (decodeBc4 s.blk 8 bias.toNat i)).setPos 128).complete := rfl

theorem exec_encBc4 (bias : Byte) (c : Channel) : exec (.encBc4 bias c) s =
    .next ((s.encodeHalf 0 bias c).setPos 64).complete := rfl

theorem exec_encBc5 (bias : Byte) : exec (.encBc5 bias) s =
    .next (((s.encodeHalf 0 bias .r).encodeHalf 8 bias .g).setPos 128).complete := rfl

theorem exec_bc7Reserved : exec .bc7Reserved s = .next (s.errorAction .bc7 .badMode 8 8) := rfl

end

theorem KeepsAllButPix8.setPix8Channel {s t : State} (h : KeepsAllButPix8 s t) (c : Channel)
    (f : Fin 16 → Byte) : KeepsAllButPix8 s (t.setPix8Channel c f) := by
  simpa [KeepsAllButPix8, KeepsHostSide] using h

/-! ### How an instruction ends -/

/-- The state an instruction leaves: one register written, or none, then the cursor and `STAT <- 0`; or the
error action of one of its causes. -/
inductive Ending (i : Instr) (s : State) : State → Prop
  | nop (hi : i = .nop) : Ending i s s.complete
  | clrw (hi : i = .clrw) : Ending i s { s with warn := 0 }.complete
  | val (hi : mayWriteVal i = true) (v p : Nat) : Ending i s ((s.setVal v).setPos p).complete
  | pix8 (hi : mayWritePix8 i = true) {t : State} (ht : KeepsAllButPix8 s t) (p : Nat) :
      Ending i s (t.setPos p).complete
  | pixh (hi : mayWritePixh i = true) {t : State} (ht : KeepsAllButPixh s t) (p : Nat) :
      Ending i s (t.setPos p).complete
  | blk (hi : mayWriteBlk i = true) {t : State} (ht : KeepsAllButBlk s t) (p : Nat) :
      Ending i s (t.setPos p).complete
  | overrun (hi : mayWriteVal i = true) :
      Ending i s (s.errorAction .cursor .overrun s.pos.toNat s.pos.toNat)
  | contract {n : Byte} {w64 : Bool} (hi : i = .getbits n w64) (hn : 8 < n.toNat) :
      Ending i s (s.errorAction .cursor .contract n.toNat s.pos.toNat)
  | badMode6h (hi : mayWritePixh i = true) (m : Nat) : Ending i s (bc6hBadMode m s)
  | badMode7 (hi : i = .decBc7 ∨ i = .bc7Reserved) : Ending i s (s.errorAction .bc7 .badMode 8 8)
  | badCmd {w : Word} (hi : i = .reservedCmd w) :
      Ending i s (s.errorAction .reserved .badCmd (opField w) s.pos.toNat)

/-- An instruction answers a next state, in one of its ways to end. -/
def HasEnding (i : Instr) (s : State) : Prop := Completes i s (Ending i s)

theorem hasEnding_getbit (w64 : Bool) (s : State) : HasEnding (.getbit w64) s := by
  by_cases h : s.pos.toNat + 1 ≤ cursorLimit w64
  · exact ⟨_, exec_getbit_of_fits h, .val rfl _ _⟩
  · exact ⟨_, exec_getbit_of_overruns (Nat.not_le.mp h), .overrun rfl⟩

theorem hasEnding_getbits (n : Byte) (w64 : Bool) (s : State) : HasEnding (.getbits n w64) s := by
  by_cases h8 : 8 < n.toNat
  · exact ⟨_, exec_getbits_contract s w64 h8, .contract rfl h8⟩
  obtain h0 | h1 := Nat.eq_zero_or_pos n.toNat
  · exact ⟨_, exec_getbits_zero w64 s h0, .val rfl _ _⟩
  by_cases h : s.pos.toNat + n.toNat ≤ cursorLimit w64
  · exact ⟨_, exec_getbits_of_fits w64 s (Nat.not_lt.mp h8) h, .val rfl _ _⟩
  · exact ⟨_, exec_getbits_of_overruns w64 s h1 (Nat.not_lt.mp h8) (Nat.not_le.mp h), .overrun rfl⟩

theorem mayWritePixh_decBc6h (sgn : Bool) : mayWritePixh (.decBc6h sgn) = true := by
  cases sgn <;> decide

theorem mayWritePixh_bc6hRow {sgn : Bool} :
    ∀ i ∈ (bc6hRows sgn).map Prod.fst, mayWritePixh i = true := by
  cases sgn <;> decide

theorem mayWritePixh_bc6hReservedRow {sgn : Bool} :
    ∀ i ∈ (bc6hReservedRows sgn).map Prod.fst, mayWritePixh i = true := by
  cases sgn <;> decide

theorem mayWritePix8_bc7Row : ∀ i ∈ bc7Rows.map Prod.fst, mayWritePix8 i = true := by decide

section
variable (s : State) {sgn : Bool} {i j : Instr}

/-- What a BC6H mode row does is one of the ways to end of any instruction that may write `PIXH`. -/
theorem ending_bc6hRow (hi : mayWritePixh i = true) (hj : j ∈ (bc6hRows sgn).map Prod.fst) :
    Completes j s (Ending i s) := by
  obtain ⟨row, hrow, rfl⟩ := List.mem_map.mp hj
  obtain ⟨h, idx, -, -, hexec⟩ := exec_bc6hRow_walk hrow s
  exact ⟨_, hexec, .pixh hi (keepsAllButPixh_bc6hEmit ..) 128⟩

theorem ending_bc6hReservedRow (hi : mayWritePixh i = true)
    (hj : j ∈ (bc6hReservedRows sgn).map Prod.fst) : Completes j s (Ending i s) := by
  obtain ⟨row, hrow, rfl⟩ := List.mem_map.mp hj
  exact ⟨_, exec_bc6hReservedRow sgn s row hrow, .badMode6h hi _⟩

theorem ending_bc7Row (hi : mayWritePix8 i = true) (hj : j ∈ bc7Rows.map Prod.fst) :
    Completes j s (Ending i s) := by
  obtain ⟨row, hrow, rfl⟩ := List.mem_map.mp hj
  obtain ⟨x, w1, w2, -, -, -, hexec⟩ := exec_bc7Row_walk hrow s
  exact ⟨_, hexec, .pix8 hi (keepsAllButPix8_bc7Emit ..) 128⟩

theorem hasEnding_bc6hRow (hi : i ∈ (bc6hRows sgn).map Prod.fst) : HasEnding i s :=
  ending_bc6hRow s (mayWritePixh_bc6hRow i hi) hi

theorem hasEnding_bc6hReservedRow (hi : i ∈ (bc6hReservedRows sgn).map Prod.fst) : HasEnding i s :=
  ending_bc6hReservedRow s (mayWritePixh_bc6hReservedRow i hi) hi

theorem hasEnding_bc7Row (hi : i ∈ bc7Rows.map Prod.fst) : HasEnding i s :=
  ending_bc7Row s (mayWritePix8_bc7Row i hi) hi

end

theorem hasEnding_decBc6h (sgn : Bool) (s : State) : HasEnding (.decBc6h sgn) s := by
  rw [HasEnding, Completes, exec_decBc6h_eq_layout]
  obtain ⟨-, hrow⟩ | ⟨-, hrow⟩ := bc6hLayout_cases sgn s.blk[0]
  · exact ending_bc6hRow s (mayWritePixh_decBc6h sgn) hrow
  · exact ending_bc6hReservedRow s (mayWritePixh_decBc6h sgn) (List.mem_map_of_mem hrow)

theorem hasEnding_decBc7 (s : State) : HasEnding .decBc7 s := by
  rw [HasEnding, Completes, exec_decBc7_eq_layout]
  obtain ⟨-, hrow⟩ | ⟨-, hrow⟩ := bc7Layout_cases s.blk[0]
  · exact ending_bc7Row s rfl hrow
  · rw [hrow]
    exact ⟨_, exec_bc7Reserved s, .badMode7 (.inl rfl)⟩

/-- The inversion of `exec`: later proofs about an instruction start from its cases. -/
theorem exec_hasEnding (i : Instr) (s : State) : HasEnding i s := by
  cases i
  case nop => exact ⟨_, rfl, .nop rfl⟩
  case clrw => exact ⟨_, rfl, .clrw rfl⟩
  case getbit w64 => exact hasEnding_getbit w64 s
  case getbits n w64 => exact hasEnding_getbits n w64 s
  case decBc1 f4 => exact ⟨_, exec_decBc1 s f4, .pix8 rfl (keepsAllButPix8_setPix8 ..) _⟩
  case decBc2 => exact ⟨_, exec_decBc2 s, .pix8 rfl (keepsAllButPix8_setPix8 ..) _⟩
  case decBc3 => exact ⟨_, exec_decBc3 s, .pix8 rfl (keepsAllButPix8_setPix8 ..) _⟩
  case decBc4 bias c =>
    exact ⟨_, exec_decBc4 s bias c, .pix8 rfl (keepsAllButPix8_setPix8Channel ..) _⟩
  case decBc5 bias =>
    exact ⟨_, exec_decBc5 s bias,
      .pix8 rfl ((keepsAllButPix8_setPix8Channel s .r _).setPix8Channel .g _) _⟩
  case decBc6h sgn => exact hasEnding_decBc6h sgn s
  case decBc7 => exact hasEnding_decBc7 s
  case encBc4 bias c =>
    exact ⟨_, exec_encBc4 s bias c, .blk rfl ((keepsAllButBlk_self s).encodeHalf 0 bias c) _⟩
  case encBc5 bias =>
    exact ⟨_, exec_encBc5 s bias,
      .blk rfl (((keepsAllButBlk_self s).encodeHalf 0 bias .r).encodeHalf 8 bias .g) _⟩
  case reservedCmd w => exact ⟨_, rfl, .badCmd rfl⟩
  case bc7Reserved => exact ⟨_, exec_bc7Reserved s, .badMode7 (.inr rfl)⟩
  case bc7Mode0 | bc7Mode1 | bc7Mode2 | bc7Mode3 | bc7Mode4 | bc7Mode5 | bc7Mode6 | bc7Mode7 =>
    exact hasEnding_bc7Row s (by decide)
  case bc6hReserved13 sgn | bc6hReserved17 sgn | bc6hReserved1B sgn | bc6hReserved1F sgn =>
    exact hasEnding_bc6hReservedRow s (sgn := sgn) (by simp [bc6hReservedRows])
  -- the fourteen BC6H modes
  all_goals
    rename_i sgn
    exact hasEnding_bc6hRow s (sgn := sgn) (by simp [bc6hRows])

theorem ending_of_exec {i : Instr} {s t : State} (h : exec i s = .next t) : Ending i s t := by
  obtain ⟨u, hu, hending⟩ := exec_hasEnding i s
  obtain rfl : u = t := Host.Outcome.next.inj (hu.symm.trans h)
  exact hending

/-! ### Which registers an instruction writes -/

theorem Ending.keepsHostSide {i : Instr} {s t : State} (h : Ending i s t) : KeepsHostSide s t := by
  cases h with
  | nop | clrw | val => exact ⟨rfl, rfl, rfl⟩
  | pix8 _ ht | pixh _ ht | blk _ ht =>
    obtain ⟨-, -, -, -, -, hhost⟩ := ht
    exact hhost
  | overrun | contract | badMode6h | badMode7 | badCmd => exact keepsHostSide_errorAction s ..

/-- The instructions that leave `POS` alone write no data register. -/
theorem writes_nothing_of_keepsPos {i : Instr} (h : keepsPos i = true) :
    mayWriteVal i = false ∧ mayWritePix8 i = false ∧ mayWritePixh i = false ∧
      mayWriteBlk i = false := by
  cases i
  case nop | clrw | reservedCmd => exact ⟨rfl, rfl, rfl, rfl⟩
  all_goals cases h

/-- The cursor commands and the decodes to `PIXH` are no instructions that raise nothing. -/
theorem raises_of_writes {i : Instr} (h : raisesNothing i = true) :
    mayWriteVal i = false ∧ mayWritePixh i = false ∧ i ≠ .decBc7 ∧ i ≠ .bc7Reserved := by
  cases i
  case nop | clrw | decBc1 | decBc2 | decBc3 | decBc4 | decBc5 | encBc4 | encBc5 =>
    exact ⟨rfl, rfl, nofun, nofun⟩
  all_goals cases h

section
variable {i : Instr} {s t : State} (h : Ending i s t)
include h

theorem Ending.blk_eq (hi : mayWriteBlk i = false) : t.blk = s.blk := by
  cases h with
  | nop | clrw | val => rfl
  | pix8 _ ht | pixh _ ht => exact ht.1
  | blk hi' => rw [hi] at hi'; cases hi'
  | overrun | contract | badMode6h | badMode7 | badCmd => exact s.errorAction_blk ..

theorem Ending.pix8_eq (hi : mayWritePix8 i = false) : t.pix8 = s.pix8 := by
  cases h with
  | nop | clrw | val => rfl
  | pix8 hi' => rw [hi] at hi'; cases hi'
  | pixh _ ht => exact ht.2.1
  | blk _ ht => exact ht.1
  | overrun | contract | badMode6h | badCmd => exact s.errorOutput_pix8_of_ne nofun
  | badMode7 hi' => obtain rfl | rfl := hi' <;> cases hi

theorem Ending.pixh_eq (hi : mayWritePixh i = false) : t.pixh = s.pixh := by
  cases h with
  | nop | clrw | val => rfl
  | pix8 _ ht | blk _ ht => exact ht.2.1
  | pixh hi' | badMode6h hi' => rw [hi] at hi'; cases hi'
  | overrun | contract | badMode7 | badCmd => exact s.errorOutput_pixh_of_ne nofun

theorem Ending.val_eq (hi : mayWriteVal i = false) : t.val = s.val := by
  cases h with
  | nop | clrw => rfl
  | val hi' | overrun hi' => rw [hi] at hi'; cases hi'
  | pix8 _ ht | pixh _ ht | blk _ ht => exact ht.2.2.1
  | contract => exact s.errorOutput_val_of_keeps (.inr rfl)
  | badMode6h | badMode7 | badCmd => exact s.errorOutput_val_of_keeps (.inl nofun)

theorem Ending.pos_eq (hi : keepsPos i = true) : t.pos = s.pos := by
  obtain ⟨hval, hpix8, hpixh, hblk⟩ := writes_nothing_of_keepsPos hi
  cases h with
  | nop | clrw => rfl
  | val hi' => rw [hval] at hi'; cases hi'
  | pix8 hi' => rw [hpix8] at hi'; cases hi'
  | pixh hi' | badMode6h hi' => rw [hpixh] at hi'; cases hi'
  | blk hi' => rw [hblk] at hi'; cases hi'
  | badMode7 hi' => obtain rfl | rfl := hi' <;> cases hi
  | overrun | contract | badCmd => simp

/-- Only `GETBITS` of more than 8 bits writes `FATAL`. -/
theorem Ending.fatal_eq (hi : ∀ n w64, i = .getbits n w64 → ¬ 8 < n.toNat) : t.fatal = s.fatal := by
  cases h with
  | nop | clrw | val => rfl
  | pix8 _ ht | pixh _ ht | blk _ ht => exact ht.2.2.2.2.1
  | contract hi' hn => exact absurd hn (hi _ _ hi')
  | overrun | badMode6h | badMode7 | badCmd => simp [bc6hBadMode]

theorem Ending.completes_of_raisesNothing (hi : raisesNothing i = true) :
    t.stat = 0 ∧ t.fatal = s.fatal ∧ (i ≠ .clrw → t.warn = s.warn) := by
  obtain ⟨hval, hpixh, h7, h7r⟩ := raises_of_writes hi
  cases h with
  | nop | val => exact ⟨rfl, rfl, fun _ => rfl⟩
  | clrw hi' => exact ⟨rfl, rfl, fun hne => absurd hi' hne⟩
  | pix8 _ ht | pixh _ ht | blk _ ht =>
    obtain ⟨-, -, -, hwarn, hfatal, -⟩ := ht
    exact ⟨rfl, hfatal, fun _ => hwarn⟩
  | overrun hi' => rw [hval] at hi'; cases hi'
  | badMode6h hi' => rw [hpixh] at hi'; cases hi'
  | badMode7 hi' => exact absurd hi' (not_or.mpr ⟨h7, h7r⟩)
  | contract hi' | badCmd hi' => subst hi'; cases hi

end

/-- Settles O56: register by register over the ways an instruction can end. -/
theorem commandsWriteOnlyTheRegistersOfTheTable :
    Obligations.CommandsWriteOnlyTheRegistersOfTheTable := by
  unfold Obligations.CommandsWriteOnlyTheRegistersOfTheTable
  intro i s t hexec
  have h := ending_of_exec hexec
  refine ⟨h.keepsHostSide, h.blk_eq, h.pix8_eq, h.pixh_eq, h.val_eq, h.pos_eq, fun hne => ?fatal,
    h.completes_of_raisesNothing⟩
  case fatal =>
    by_contra hno
    exact hne (h.fatal_eq fun n w64 hi hn => hno ⟨n, w64, hi, hn⟩)

/-! ### The status registers -/

/-- The invariant speaks of `STAT`, `WARN` and `FATAL` only. -/
theorem StatusInv.congr {s t : State} (h : StatusInv s) (hstat : t.stat = s.stat)
    (hwarn : t.warn = s.warn) (hfatal : t.fatal = s.fatal) : StatusInv t := by
  unfold StatusInv State.statCause State.statInfo at h ⊢
  rwa [hstat, hwarn, hfatal]

/-- Without an error recorded the invariant asks only that `WARN` has no bit in 7:4. -/
theorem statusInv_of_stat_eq_zero {t : State} (hstat : t.stat = 0) (hwarn : t.warn.toNat < 16)
    (hfatal : t.fatal = false) : StatusInv t := by
  have hcause := statCause_of_stat_eq_zero hstat
  simp [StatusInv, hcause, hstat, hwarn, hfatal]

theorem warnWith_lt {w : Byte} (h : w.toNat < 16) (c : Cause) : (warnWith w c).toNat < 16 := by
  cases c with
  | contract => exact h
  | badMode | overrun | badIndex | badCmd =>
    exact Nat.or_lt_two_pow (n := 4) h (by decide)

/-- The error action sets the `WARN` bit of its cause (R346 step 4). -/
theorem warnWith_getLsbD_of_warnBit {c : Cause} {k : Nat} (hk : c.warnBit = some k) (w : Byte) :
    (warnWith w c).getLsbD k = true := by
  cases c <;> cases hk <;> simp [warnWith, Cause.warnBit]

/-- A `WARN` bit that is set stays set (R30). -/
theorem warnWith_getLsbD_of_getLsbD {w : Byte} {k : Nat} (h : w.getLsbD k = true) (c : Cause) :
    (warnWith w c).getLsbD k = true := by
  unfold warnWith
  split <;> simp [h]

/-- The error action establishes the invariant when a `CONTRACT` has an `info` above 8. -/
theorem statusInv_errorAction {s : State} (hwarn : s.warn.toNat < 16) (hfatal : s.fatal = false)
    (o : ErrorOutput) {c : Cause} {info pos : Nat} (hc : c = .contract → 8 < info ∧ info < 256) :
    StatusInv (s.errorAction o c info pos) := by
  have hcause := s.errorAction_statCause o c info pos
  have hbit {k : Nat} (hk : c.warnBit = some k) := warnWith_getLsbD_of_warnBit hk s.warn
  have hcode : c.code ≤ 5 := by cases c <;> decide
  have hstat := statWord_toNat c info
  have hinfo : c = .contract → 9 ≤ (s.errorAction o c info pos).statInfo := by
    rintro rfl
    obtain ⟨hlo, hhi⟩ := hc rfl
    rw [State.statInfo, State.errorAction_stat, statWord_info, Nat.mod_eq_of_lt hhi]
    exact hlo
  simp only [StatusInv, State.errorAction_stat, State.errorAction_warn, hcause, hstat,
    State.errorAction_fatal, hfatal, Bool.false_or]
  refine ⟨by omega, by omega, warnWith_lt hwarn c, ?_⟩
  cases c <;> simp_all [Cause.code, Cause.warnBit]

theorem Ending.statusInv {i : Instr} {s t : State} (h : Ending i s t) (hinv : StatusInv s)
    (hfatal : s.fatal = false) : StatusInv t := by
  obtain ⟨-, -, hwarn, -⟩ := hinv
  cases h with
  | nop | val => exact statusInv_of_stat_eq_zero rfl hwarn hfatal
  | clrw => exact statusInv_of_stat_eq_zero rfl (Nat.two_pow_pos 4) hfatal
  | pix8 _ ht | pixh _ ht | blk _ ht =>
    obtain ⟨-, -, -, hw, hf, -⟩ := ht
    exact statusInv_of_stat_eq_zero rfl (hw ▸ hwarn) (hf.trans hfatal)
  | contract hi hn => exact statusInv_errorAction hwarn hfatal _ fun _ => ⟨hn, BitVec.isLt _⟩
  | overrun | badMode6h | badMode7 | badCmd => exact statusInv_errorAction hwarn hfatal _ nofun

theorem State.hostWrite_status (s : State) (off : Nat) (v : Word) :
    (s.hostWrite off v).stat = s.stat ∧ (s.hostWrite off v).warn = s.warn := by
  unfold State.hostWrite
  split <;> exact ⟨rfl, rfl⟩

/-- Settles O58: nothing is recorded at reset. -/
theorem statusInvariantHoldsAtReset : Obligations.StatusInvariantHoldsAtReset := by
  unfold Obligations.StatusInvariantHoldsAtReset
  exact statusInv_of_stat_eq_zero rfl (by decide) rfl

/-- Settles O59: a step that runs no command leaves the status registers or resets them, and a command
runs with `FATAL` 0 and ends in one of its ways. -/
theorem everyStepKeepsTheStatusInvariant : Obligations.EveryStepKeepsTheStatusInvariant := by
  unfold Obligations.EveryStepKeepsTheStatusInvariant
  intro s t hinv hstep
  cases stepsTo_of_step hstep with
  | idle _ ht => exact ht ▸ hinv
  | read off rest _ ht => exact ht ▸ hinv.congr rfl rfl rfl
  | write off v rest _ _ ht =>
    obtain ⟨hstat, hwarn⟩ := State.hostWrite_status { s with bus := rest } off v
    exact ht ▸ hinv.congr hstat hwarn (State.hostWrite_fatal _ off v)
  | ignored w rest _ _ ht => exact ht ▸ hinv.congr rfl rfl rfl
  | command w rest _ hfatal hexec =>
    exact (ending_of_exec hexec).statusInv (hinv.congr rfl rfl rfl) hfatal
  | reset rest _ ht => exact ht ▸ statusInv_of_stat_eq_zero rfl (Nat.two_pow_pos 4) rfl

/-- A command other than `CLRW` clears no `WARN` bit. -/
theorem exec_keeps_warn {i : Instr} {s t : State} (hexec : exec i s = .next t) (hi : i ≠ .clrw)
    {k : Nat} (hk : s.warn.getLsbD k = true) : t.warn.getLsbD k = true := by
  obtain ⟨u, hu, hends⟩ := exec_endsOrRaises i s hi
  obtain rfl : u = t := Host.Outcome.next.inj (hu.symm.trans hexec)
  obtain ⟨-, hwarn, -⟩ | ⟨o, c, info, pos, rfl⟩ := hends
  · rwa [hwarn]
  · rw [State.errorAction_warn]
    exact warnWith_getLsbD_of_getLsbD hk c

/-- Settles O57: of the steps only those two write `WARN` otherwise than by the error action. -/
theorem warnBitsStayUntilClrwOrReset : Obligations.WarnBitsStayUntilClrwOrReset := by
  unfold Obligations.WarnBitsStayUntilClrwOrReset
  intro s t hstep hreset hclrw k hk
  cases stepsTo_of_step hstep with
  | idle _ ht | read _ _ _ ht | ignored _ _ _ _ ht => exact ht ▸ hk
  | write off v rest _ _ ht =>
    obtain ⟨-, hwarn⟩ := State.hostWrite_status { s with bus := rest } off v
    rw [ht, hwarn]
    exact hk
  | command w rest hbus hfatal hexec =>
    obtain hf | hne := hclrw w (by rw [hbus]; rfl)
    · rw [hfatal] at hf
      cases hf
    · exact exec_keeps_warn hexec hne hk
  | reset rest hbus _ => exact absurd (by rw [hbus]; rfl) hreset

/-! ### Every state has a next one -/

theorem State.hostWrite_bus (s : State) (off : Nat) (v : Word) : (s.hostWrite off v).bus = s.bus := by
  unfold State.hostWrite
  split <;> rfl

/-- The step of an access takes just that access. -/
theorem step_of_cons {s : State} {x : HostAccess} {rest : List HostAccess} (hbus : s.bus = x :: rest) :
    ∃ t, step s = .next t ∧ t.bus = rest := by
  cases x with
  | read off => exact ⟨_, step_read hbus, rfl⟩
  | reset => exact ⟨_, step_reset hbus, rfl⟩
  | write off v =>
    by_cases hoff : off = 0x10
    · subst hoff
      cases hfatal : s.fatal with
      | true => exact ⟨_, step_command_of_fatal hbus hfatal, rfl⟩
      | false =>
        obtain ⟨t, hexec, hending⟩ := exec_hasEnding (decodeWord v) { s with bus := rest, cmd := v }
        obtain ⟨-, hrest, -⟩ := hending.keepsHostSide
        exact ⟨t, (step_command_of_not_fatal hbus hfatal).trans hexec, hrest⟩
    · exact ⟨_, step_write hbus hoff, State.hostWrite_bus _ off v⟩

/-- Settles O8: by the oldest access; a command it runs has a next state and keeps the list. -/
theorem stepAlwaysAnswersANextState : Obligations.StepAlwaysAnswersANextState := by
  unfold Obligations.StepAlwaysAnswersANextState
  intro s
  cases hbus : s.bus with
  | nil => exact ⟨s, step_idle hbus, hbus, fun _ => rfl⟩
  | cons x rest =>
    obtain ⟨t, hstep, ht⟩ := step_of_cons hbus
    exact ⟨t, hstep, ht, fun h => absurd h (List.cons_ne_nil x rest)⟩

end Sys2Proof.Machine

/-! SUPPORT. The half block as the unit of the BC1 to BC5 formats (30_encoding.md R85 to R89): its fields are
those of its eight bytes wherever it stands, an encoding determines its bytes, and so a decode or encode
command that is repeated writes what it wrote before. -/

namespace Sys2Proof.Machine

/-! ### Halves with the same bytes -/

/-- The half of `b` at byte `o` and that of `d` at byte `o'` hold the same eight bytes. -/
def Block.SameHalf (b : Block) (o : Nat) (d : Block) (o' : Nat) : Prop :=
  ∀ j < 8, b.byte (o + j) = d.byte (o' + j)

section
variable {b d : Block} {o o' : Nat}

theorem Block.sameHalf_of_getElem (ho : o + 8 ≤ 16) (ho' : o' + 8 ≤ 16)
    (h : ∀ j : Fin 8, (b[o + j.val]'(by omega)) = (d[o' + j.val]'(by omega))) :
    b.SameHalf o d o' := fun j hj =>
  (b.byte_eq ⟨o + j, by omega⟩).trans
    ((congrArg BitVec.toNat (h ⟨j, hj⟩)).trans (d.byte_eq ⟨o' + j, by omega⟩).symm)

variable (h : b.SameHalf o d o')
include h

/-- A field of the half has one value at both places. -/
theorem Block.SameHalf.memRead_eq {p n : Nat} (hp : p + n ≤ 64) :
    b.memRead (8 * o + p) n = d.memRead (8 * o' + p) n := by
  induction n with
  | zero => rfl
  | succ n ih =>
    have hbit : b.bit (8 * o + p + n) = d.bit (8 * o' + p + n) := by
      rw [Block.bit, Block.bit, show (8 * o + p + n) / 8 = o + (p + n) / 8 by omega,
        show (8 * o' + p + n) / 8 = o' + (p + n) / 8 by omega,
        show (8 * o + p + n) % 8 = (8 * o' + p + n) % 8 by omega, h _ (by omega)]
    rw [Block.memRead, Block.memRead, ih (by omega), hbit]

theorem Block.SameHalf.decodeBc1_eq (f4 : Bool) (i : Fin 16) :
    decodeBc1 b o f4 i = decodeBc1 d o' f4 i := by
  have hi := i.isLt
  have hc0 : b.bc1C0 o = d.bc1C0 o' := h.memRead_eq (p := 0) (by omega)
  have hc1 : b.bc1C1 o = d.bc1C1 o' := h.memRead_eq (p := 16) (by omega)
  have hidx : b.bc1Index o i = d.bc1Index o' i := by
    rw [Block.bc1Index, Block.bc1Index, Nat.add_assoc, Nat.add_assoc, h.memRead_eq (by omega)]
  rw [decodeBc1, decodeBc1, hc0, hc1, hidx]

theorem Block.SameHalf.decodeBc4_eq (bias : Nat) (i : Fin 16) :
    decodeBc4 b o bias i = decodeBc4 d o' bias i := by
  have hi := i.isLt
  have he0 : b.bc4E0 o = d.bc4E0 o' := h.memRead_eq (p := 0) (by omega)
  have he1 : b.bc4E1 o = d.bc4E1 o' := h.memRead_eq (p := 8) (by omega)
  have hidx : b.bc4Index o i = d.bc4Index o' i := by
    rw [Block.bc4Index, Block.bc4Index, Nat.add_assoc, Nat.add_assoc, h.memRead_eq (by omega)]
  rw [decodeBc4, decodeBc4, bc4Palette, bc4Palette, he0, he1, hidx]

end

/-- Settles O33: each half is read by its own eight bytes, and the channels are written one after the
other. -/
theorem bc3AndBc5AreComposedOfBc1AndBc4 : Obligations.Bc3AndBc5AreComposedOfBc1AndBc4 := by
  unfold Obligations.Bc3AndBc5AreComposedOfBc1AndBc4
  constructor
  · intro s hi lo hhi hlo
    have hcolour : hi.SameHalf 0 s.blk 8 :=
      Block.sameHalf_of_getElem (by decide) (by decide) (by simpa using hhi)
    have halpha : lo.SameHalf 0 s.blk 0 :=
      Block.sameHalf_of_getElem (by decide) (by decide) (by simpa using hlo)
    refine ⟨_, _, _, exec_decBc1 _ true, exec_decBc4 _ 0 .a, exec_decBc3 s, ?_⟩
    simp [hcolour.decodeBc1_eq, halpha.decodeBc4_eq, bytePixel, Pixel.map, Pixel.set]
  · intro s bias hi hhi
    have hgreen : hi.SameHalf 0 s.blk 8 :=
      Block.sameHalf_of_getElem (by decide) (by decide) (by simpa using hhi)
    refine ⟨_, _, _, exec_decBc4 s bias .r, exec_decBc4 _ bias .g, exec_decBc5 s bias, ?_⟩
    simp [hgreen.decodeBc4_eq, Pixel.set]

/-! ### An encoding determines the bytes of its half -/

/-- A bit of a field, from the field's value. -/
theorem Block.bit_eq_of_memRead {b c : Block} {p n : Nat} (h : b.memRead p n = c.memRead p n) {k : Nat}
    (hk : k < n) : b.bit (p + k) = c.bit (p + k) := by
  induction n generalizing p k with
  | zero => exact absurd hk (Nat.not_lt_zero k)
  | succ n ih =>
    rw [b.memRead_succ_low, c.memRead_succ_low] at h
    have hb := b.bit_lt p
    have hc := c.bit_lt p
    cases k with
    | zero => simp only [Nat.add_zero]; omega
    | succ k =>
      rw [Nat.add_comm k 1, ← Nat.add_assoc]
      exact ih (by omega) (by omega)

theorem Block.HoldsEncoded.sameHalf {b c : Block} {o : Nat} {x : Encoded} (hb : b.HoldsEncoded o x)
    (hc : c.HoldsEncoded o x) : b.SameHalf o c o := by
  obtain ⟨hb0, hb1, hbi⟩ := hb
  obtain ⟨hc0, hc1, hci⟩ := hc
  -- the bits of the indices
  have hbit (q : Nat) (hq : q < 48) : b.bit (8 * o + 16 + q) = c.bit (8 * o + 16 + q) := by
    have hfield := (hbi (q / 3) (by omega)).trans (hci (q / 3) (by omega)).symm
    have hk := Block.bit_eq_of_memRead hfield (k := q % 3) (by omega)
    rwa [Nat.add_assoc _ (3 * (q / 3)), Nat.div_add_mod] at hk
  intro j hj
  match j with
  | 0 => exact hb0.trans hc0.symm
  | 1 => exact hb1.trans hc1.symm
  | j + 2 =>
    rw [← b.memRead_byte, ← c.memRead_byte]
    refine Block.memRead_congr_bit fun k hk => ?_
    rw [show 8 * (o + (j + 2)) + k = 8 * o + 16 + (8 * j + k) by omega]
    exact hbit _ (by omega)

/-- What packing writes in its half does not depend on what stood there. -/
theorem packBc4_sameHalf (b c : Block) {o : Nat} (ho : o ≤ 8) {samples : List Nat}
    (hlen : samples.length = 16) (bias : Nat) :
    (packBc4 b o (encodeBc4 samples bias)).SameHalf o (packBc4 c o (encodeBc4 samples bias)) o := by
  obtain ⟨hb0, hb1, hidx⟩ := encodeBc4_bounds samples bias
  have hidxs : (encodeBc4 samples bias).idx.length = 16 := by simp [encodeBc4, hlen]
  exact (holdsEncoded_packBc4 b ho hb0 hb1 hidxs hidx).sameHalf
    (holdsEncoded_packBc4 c ho hb0 hb1 hidxs hidx)

/-! ### Writes that repeat one -/

section
variable (s : State)

theorem warnWith_warnWith (w : Byte) (c : Cause) : warnWith (warnWith w c) c = warnWith w c := by
  unfold warnWith
  cases c.warnBit with
  | none => rfl
  | some k => simp only [BitVec.or_assoc, BitVec.or_self]

/-- Writing `PIXH` and ending, repeated with the same pixels. -/
theorem State.setPixh_end_again (f : Fin 16 → Pixel Half) (p : Nat) :
    ((((s.setPixh f).setPos p).complete.setPixh f).setPos p).complete =
      ((s.setPixh f).setPos p).complete := by
  simp only [State.setPixh, State.setPos, State.complete]

theorem State.setPix8_end_again (f : Fin 16 → Pixel Byte) (p : Nat) :
    ((((s.setPix8 f).setPos p).complete.setPix8 f).setPos p).complete =
      ((s.setPix8 f).setPos p).complete := by
  simp only [State.setPix8, State.setPos, State.complete]

theorem State.setPix8Channel_end_again (c : Channel) (f : Fin 16 → Byte) (p : Nat) :
    ((((s.setPix8Channel c f).setPos p).complete.setPix8Channel c f).setPos p).complete =
      ((s.setPix8Channel c f).setPos p).complete := by
  cases c <;> simp [State.setPix8Channel, State.setPos, State.complete, Pixel.set]

theorem State.setPix8_red_green_end_again (f g : Fin 16 → Byte) (p : Nat) :
    ((((((s.setPix8Channel .r f).setPix8Channel .g g).setPos p).complete.setPix8Channel .r f).setPix8Channel
      .g g).setPos p).complete =
      (((s.setPix8Channel .r f).setPix8Channel .g g).setPos p).complete := by
  simp [State.setPix8Channel, State.setPos, State.complete, Pixel.set]

/-- The error action of a decode, repeated. -/
theorem State.errorAction_again {o : ErrorOutput} (ho : o = .bc6h ∨ o = .bc7) (c : Cause)
    (info pos : Nat) :
    (s.errorAction o c info pos).errorAction o c info pos = s.errorAction o c info pos := by
  obtain rfl | rfl := ho <;>
    simp [State.errorAction, State.errorOutput, State.setPixh, State.setPix8, State.setPos,
      warnWith_warnWith]

theorem bc6hDecode_again (info : Bc6hMode) (sgn : Bool) :
    bc6hDecode info sgn (bc6hDecode info sgn s) = bc6hDecode info sgn s := by
  have hblk : (bc6hDecode info sgn s).blk = s.blk := by
    rw [bc6hDecode]
    cases bc6hWalk info s.blk <;> simp [bc6hEmit]
  rw [bc6hDecode, hblk, bc6hDecode]
  cases bc6hWalk info s.blk with
  | ok x pos =>
    rw [State.finish_ok, State.finish_ok]
    unfold bc6hEmit
    exact s.setPixh_end_again _ pos
  | raise c i pos => exact s.errorAction_again (.inl rfl) c i pos

theorem bc7Decode_again (info : Bc7Mode) : bc7Decode info (bc7Decode info s) = bc7Decode info s := by
  have hblk : (bc7Decode info s).blk = s.blk := by
    rw [bc7Decode]
    cases bc7Walk info s.blk <;> simp [bc7Emit]
  rw [bc7Decode, hblk, bc7Decode]
  cases bc7Walk info s.blk with
  | ok x pos =>
    rw [State.finish_ok, State.finish_ok]
    unfold bc7Emit
    exact s.setPix8_end_again _ pos
  | raise c i pos => exact s.errorAction_again (.inr rfl) c i pos

theorem State.setBlkHalf_eq_self {o : Nat} {b : Block}
    (hbytes : ∀ j : Fin 16, o ≤ j.val ∧ j.val < o + 8 → b[j] = s.blk[j])
    (hwritten : ∀ j : Fin 16, o ≤ j.val ∧ j.val < o + 8 → s.written.blk[j] = true) :
    s.setBlkHalf o b = s := by
  have hblk : (s.setBlkHalf o b).blk = s.blk := Vector.ext fun j hj => by
    have hj := hbytes ⟨j, hj⟩
    simp_all
  have hw : (s.setBlkHalf o b).written.blk = s.written.blk := Vector.ext fun j hj => by
    have hj := hwritten ⟨j, hj⟩
    simp_all
  rw [State.setBlkHalf_blk] at hblk
  simp only [State.setBlkHalf_written] at hw
  simp only [State.setBlkHalf, hblk, hw]

/-- An encode of a half that holds the encoding already. -/
theorem State.encodeHalf_eq_self {o : Nat} {bias : Byte} {c : Channel} (ho : o ≤ 8)
    (hblk : s.blk.HoldsEncoded o (encodeBc4 (s.samples c) bias.toNat))
    (hwritten : ∀ j : Fin 16, o ≤ j.val ∧ j.val < o + 8 → s.written.blk[j] = true) :
    s.encodeHalf o bias c = s := by
  obtain ⟨hb0, hb1, hidx⟩ := encodeBc4_bounds (s.samples c) bias.toNat
  have hpacked := (holdsEncoded_packBc4 s.blk ho hb0 hb1 (by simp) hidx).sameHalf hblk
  refine s.setBlkHalf_eq_self (fun j hj => BitVec.eq_of_toNat_eq ?_) hwritten
  rw [← Block.byte_eq, ← Block.byte_eq, ← Nat.add_sub_cancel' hj.1]
  exact hpacked (j.val - o) (by omega)

theorem State.encodeHalf_written (o : Nat) (bias : Byte) (c : Channel) {j : Fin 16}
    (hj : o ≤ j.val ∧ j.val < o + 8 ∨ s.written.blk[j] = true) :
    (s.encodeHalf o bias c).written.blk[j] = true := by
  by_cases h : o ≤ j.val ∧ j.val < o + 8
  · simp [State.encodeHalf, h]
  · simpa [State.encodeHalf, h] using hj.resolve_left h

theorem State.encodeHalf_again (bias : Byte) (c : Channel) :
    (s.encodeHalf 0 bias c).encodeHalf 0 bias c = s.encodeHalf 0 bias c :=
  State.encodeHalf_eq_self _ (by decide) (s.encodeHalf_holdsEncoded bias c (by decide))
    fun _ hj => s.encodeHalf_written 0 bias c (.inl hj)

/-- After both encodes each half holds its encoding. -/
theorem State.encodeHalves_again (bias : Byte) :
    (((s.encodeHalf 0 bias .r).encodeHalf 8 bias .g).encodeHalf 0 bias .r).encodeHalf 8 bias .g =
      (s.encodeHalf 0 bias .r).encodeHalf 8 bias .g := by
  have hred : ((s.encodeHalf 0 bias .r).encodeHalf 8 bias .g).blk.HoldsEncoded 0 _ :=
    State.setBlkHalf_keeps_holdsEncoded _ (s.encodeHalf_holdsEncoded bias .r (Nat.zero_le 8)) le_rfl
  have hgreen := (s.encodeHalf 0 bias .r).encodeHalf_holdsEncoded bias .g (le_refl 8)
  generalize ht : (s.encodeHalf 0 bias .r).encodeHalf 8 bias .g = t at hred hgreen
  have hwritten (j : Fin 16) (hj : j.val < 8 ∨ 8 ≤ j.val) : t.written.blk[j] = true := by
    rw [← ht]
    refine State.encodeHalf_written _ 8 bias .g (hj.symm.imp (fun h => ⟨h, j.isLt⟩) fun h => ?_)
    exact s.encodeHalf_written 0 bias .r (.inl ⟨Nat.zero_le _, by omega⟩)
  have hsamples (c : Channel) : t.samples c = s.samples c := by
    rw [← ht, State.encodeHalf_samples, State.encodeHalf_samples]
  rw [← hsamples] at hred
  rw [State.encodeHalf_samples, ← hsamples] at hgreen
  rw [State.encodeHalf_eq_self t (by decide) hred fun j hj => hwritten j (.inl (by omega)),
    State.encodeHalf_eq_self t (le_refl 8) hgreen fun j hj => hwritten j (.inr hj.1)]

/-- An encode reads neither `POS` nor `STAT`. -/
theorem State.encodeHalf_end (o : Nat) (bias : Byte) (c : Channel) (p : Nat) :
    (s.setPos p).complete.encodeHalf o bias c = ((s.encodeHalf o bias c).setPos p).complete := rfl

theorem State.setPos_complete_again (p : Nat) :
    ((s.setPos p).complete.setPos p).complete = (s.setPos p).complete := by
  simp only [State.setPos, State.complete]

end

/-! ### Commands that repeat one -/

/-- What the command left is what it leaves again. -/
def Repeats (i : Instr) (s : State) : Prop := ∃ t, exec i s = .next t ∧ exec i t = .next t

section
variable (s : State)

theorem repeats_decBc1 (f4 : Bool) : Repeats (.decBc1 f4) s := by
  refine ⟨_, exec_decBc1 s f4, ?_⟩
  rw [exec_decBc1]
  simp only [State.complete_blk, State.setPos_blk, State.setPix8_blk, State.setPix8_end_again]

theorem repeats_decBc2 : Repeats .decBc2 s := by
  refine ⟨_, exec_decBc2 s, ?_⟩
  rw [exec_decBc2]
  simp only [State.complete_blk, State.setPos_blk, State.setPix8_blk, State.setPix8_end_again]

theorem repeats_decBc3 : Repeats .decBc3 s := by
  refine ⟨_, exec_decBc3 s, ?_⟩
  rw [exec_decBc3]
  simp only [State.complete_blk, State.setPos_blk, State.setPix8_blk, State.setPix8_end_again]

theorem repeats_decBc4 (bias : Byte) (c : Channel) : Repeats (.decBc4 bias c) s := by
  refine ⟨_, exec_decBc4 s bias c, ?_⟩
  rw [exec_decBc4]
  simp only [State.complete_blk, State.setPos_blk, State.setPix8Channel_blk,
    State.setPix8Channel_end_again]

theorem repeats_decBc5 (bias : Byte) : Repeats (.decBc5 bias) s := by
  refine ⟨_, exec_decBc5 s bias, ?_⟩
  rw [exec_decBc5]
  simp only [State.complete_blk, State.setPos_blk, State.setPix8Channel_blk,
    State.setPix8_red_green_end_again]

theorem repeats_encBc4 (bias : Byte) (c : Channel) : Repeats (.encBc4 bias c) s := by
  refine ⟨_, exec_encBc4 s bias c, ?_⟩
  rw [exec_encBc4, State.encodeHalf_end, State.encodeHalf_again, State.setPos_complete_again]

theorem repeats_bc6hRow {sgn : Bool} {i : Instr} (hi : i ∈ (bc6hRows sgn).map Prod.fst) :
    Repeats i s := by
  obtain ⟨row, hrow, rfl⟩ := List.mem_map.mp hi
  refine ⟨_, exec_bc6hRow sgn s row hrow, ?_⟩
  rw [exec_bc6hRow sgn _ row hrow, bc6hDecode_again]

theorem repeats_bc6hReservedRow {sgn : Bool} {i : Instr}
    (hi : i ∈ (bc6hReservedRows sgn).map Prod.fst) : Repeats i s := by
  obtain ⟨row, hrow, rfl⟩ := List.mem_map.mp hi
  refine ⟨_, exec_bc6hReservedRow sgn s row hrow, ?_⟩
  rw [exec_bc6hReservedRow sgn _ row hrow, bc6hBadMode, bc6hBadMode, State.errorAction_again _ (.inl rfl)]

theorem repeats_bc7Row {i : Instr} (hi : i ∈ bc7Rows.map Prod.fst) : Repeats i s := by
  obtain ⟨row, hrow, rfl⟩ := List.mem_map.mp hi
  refine ⟨_, exec_bc7Row s row hrow, ?_⟩
  rw [exec_bc7Row _ row hrow, bc7Decode_again]

theorem repeats_bc7Reserved : Repeats .bc7Reserved s :=
  ⟨_, exec_bc7Reserved s, congrArg Host.Outcome.next (s.errorAction_again (.inr rfl) ..)⟩

theorem repeats_encBc5 (bias : Byte) : Repeats (.encBc5 bias) s := by
  refine ⟨_, exec_encBc5 s bias, ?_⟩
  rw [exec_encBc5, State.encodeHalf_end, State.encodeHalf_end, State.encodeHalves_again,
    State.setPos_complete_again]

/-- A command that runs a layout row repeats it when the row does: no decode writes `BLK`. -/
theorem repeats_of_layout {i : Instr} {row : Byte → Instr} (hi : mayWriteBlk i = false)
    (hlayout : ∀ t : State, exec i t = exec (row t.blk[0]) t) (hrow : Repeats (row s.blk[0]) s) :
    Repeats i s := by
  obtain ⟨t, ht, hagain⟩ := hrow
  have hexec : exec i s = .next t := (hlayout s).trans ht
  refine ⟨t, hexec, ?_⟩
  rw [hlayout, (ending_of_exec hexec).blk_eq hi, hagain]

theorem repeats_decBc6h (sgn : Bool) : Repeats (.decBc6h sgn) s := by
  refine repeats_of_layout s rfl (exec_decBc6h_eq_layout sgn) ?_
  obtain ⟨-, hrow⟩ | ⟨-, hrow⟩ := bc6hLayout_cases sgn s.blk[0]
  · exact repeats_bc6hRow s hrow
  · exact repeats_bc6hReservedRow s (List.mem_map_of_mem hrow)

theorem repeats_decBc7 : Repeats .decBc7 s := by
  refine repeats_of_layout s rfl exec_decBc7_eq_layout ?_
  obtain ⟨-, hrow⟩ | ⟨-, hrow⟩ := bc7Layout_cases s.blk[0]
  · exact repeats_bc7Row s hrow
  · rw [hrow]
    exact repeats_bc7Reserved s

theorem repeats_of_isCodec {i : Instr} (hi : isCodec i = true) : Repeats i s := by
  cases i
  case nop | clrw | getbit | getbits | reservedCmd => cases hi
  case decBc1 f4 => exact repeats_decBc1 s f4
  case decBc2 => exact repeats_decBc2 s
  case decBc3 => exact repeats_decBc3 s
  case decBc4 bias c => exact repeats_decBc4 s bias c
  case decBc5 bias => exact repeats_decBc5 s bias
  case decBc6h sgn => exact repeats_decBc6h s sgn
  case decBc7 => exact repeats_decBc7 s
  case encBc4 bias c => exact repeats_encBc4 s bias c
  case encBc5 bias => exact repeats_encBc5 s bias
  case bc7Reserved => exact repeats_bc7Reserved s
  case bc7Mode0 | bc7Mode1 | bc7Mode2 | bc7Mode3 | bc7Mode4 | bc7Mode5 | bc7Mode6 | bc7Mode7 =>
    exact repeats_bc7Row s (by decide)
  case bc6hReserved13 sgn | bc6hReserved17 sgn | bc6hReserved1B sgn | bc6hReserved1F sgn =>
    exact repeats_bc6hReservedRow s (sgn := sgn) (by simp [bc6hReservedRows])
  -- the fourteen BC6H modes
  all_goals
    rename_i sgn
    exact repeats_bc6hRow s (sgn := sgn) (by simp [bc6hRows])

end

/-- Settles O34: no decode writes what it reads, and an encode writes the half its samples determine. -/
theorem repeatingACodecCommandChangesNothing : Obligations.RepeatingACodecCommandChangesNothing := by
  unfold Obligations.RepeatingACodecCommandChangesNothing
  intro i s t hi hexec
  obtain ⟨u, hu, hagain⟩ := repeats_of_isCodec s hi
  obtain rfl : u = t := Host.Outcome.next.inj (hu.symm.trans hexec)
  exact hagain

end Sys2Proof.Machine

/-! SUPPORT. Noninterference (10_state.md R38, 70_reset_and_hazards.md R384): each register write keeps the
agreement of two states outside the elements never written, and a ready command reads only elements on which
they agree. -/

namespace Sys2Proof.Machine

/-! ### The register writes -/

section
variable {s t : State} (h : AgreeWhereWritten s t)
include h

theorem AgreeWhereWritten.setPos_complete (p : Nat) :
    AgreeWhereWritten (s.setPos p).complete (t.setPos p).complete := by
  obtain ⟨hw, hblk, hpix8, hpixh, hval, -, hcmd, -, hrest⟩ := h
  exact ⟨hw, hblk, hpix8, hpixh, hval, rfl, hcmd, rfl, hrest⟩

theorem AgreeWhereWritten.pos_eq : s.pos = t.pos := by
  obtain ⟨-, -, -, -, -, hpos, -⟩ := h
  exact hpos

theorem AgreeWhereWritten.complete : AgreeWhereWritten s.complete t.complete := by
  obtain ⟨hw, hblk, hpix8, hpixh, hval, hpos, hcmd, -, hrest⟩ := h
  exact ⟨hw, hblk, hpix8, hpixh, hval, hpos, hcmd, rfl, hrest⟩

theorem AgreeWhereWritten.setVal (v : Nat) : AgreeWhereWritten (s.setVal v) (t.setVal v) := by
  unfold AgreeWhereWritten at h ⊢
  simp_all

theorem AgreeWhereWritten.setPixh (f : Fin 16 → Pixel Half) :
    AgreeWhereWritten (s.setPixh f) (t.setPixh f) := by
  unfold AgreeWhereWritten at h ⊢
  simp_all

theorem AgreeWhereWritten.setPix8 (f : Fin 16 → Pixel Byte) :
    AgreeWhereWritten (s.setPix8 f) (t.setPix8 f) := by
  unfold AgreeWhereWritten at h ⊢
  simp_all

theorem AgreeWhereWritten.setPix8Channel (c : Channel) (f : Fin 16 → Byte) :
    AgreeWhereWritten (s.setPix8Channel c f) (t.setPix8Channel c f) := by
  obtain ⟨hw, hblk, hpix8, hpixh, hval, hrest⟩ := h
  have hchan (i : Fin 16) (d : Channel) (hd : ((s.written.pix8[i]).set c true).get d = true) :
      ((s.pix8[i]).set c (f i)).get d = ((t.pix8[i]).set c (f i)).get d := by
    by_cases hdc : d = c
    · subst hdc
      simp
    · rw [Pixel.get_set_other _ c d _ hdc] at hd
      rw [Pixel.get_set_other _ c d _ hdc, Pixel.get_set_other _ c d _ hdc, hpix8 i d hd]
  unfold AgreeWhereWritten
  simp_all

/-- Two halves written with the same bytes. -/
theorem AgreeWhereWritten.setBlkHalf {o : Nat} {b b' : Block}
    (hbytes : ∀ j : Fin 16, o ≤ j.val ∧ j.val < o + 8 → b[j] = b'[j]) :
    AgreeWhereWritten (s.setBlkHalf o b) (t.setBlkHalf o b') := by
  obtain ⟨hw, hblk, hpix8, hpixh, hval, hrest⟩ := h
  have hbyte (j : Fin 16) (hj : (if o ≤ j.val ∧ j.val < o + 8 then true else s.written.blk[j]) = true) :
      (if o ≤ j.val ∧ j.val < o + 8 then b[j] else s.blk[j]) =
        if o ≤ j.val ∧ j.val < o + 8 then b'[j] else t.blk[j] := by
    by_cases hhalf : o ≤ j.val ∧ j.val < o + 8
    · rw [if_pos hhalf, if_pos hhalf, hbytes j hhalf]
    · rw [if_neg hhalf] at hj
      rw [if_neg hhalf, if_neg hhalf, hblk j hj]
  clear hbytes hblk
  unfold AgreeWhereWritten
  simp_all

theorem AgreeWhereWritten.errorOutput (o : ErrorOutput) (c : Cause) :
    AgreeWhereWritten (s.errorOutput o c) (t.errorOutput o c) := by
  unfold State.errorOutput
  split
  · exact h.setPixh _
  · exact h.setPix8 _
  · split
    · exact h
    · exact h.setVal 0
  · exact h

theorem AgreeWhereWritten.errorAction (o : ErrorOutput) (c : Cause) (info pos : Nat) :
    AgreeWhereWritten (s.errorAction o c info pos) (t.errorAction o c info pos) := by
  obtain ⟨hw, hblk, hpix8, hpixh, hval, -, hcmd, -, hwarn, hfatal, hhost⟩ := h.errorOutput o c
  exact ⟨hw, hblk, hpix8, hpixh, hval, rfl, hcmd, rfl, congrArg (warnWith · c) hwarn,
    congrArg (· || c == .contract) hfatal, hhost⟩

/-- A walk of the same bits ends both states in the same way. -/
theorem AgreeWhereWritten.finish {α : Type} (o : ErrorOutput) (w : Walk α) {write : State → α → State}
    (hwrite : ∀ v, AgreeWhereWritten (write s v) (write t v)) :
    AgreeWhereWritten (s.finish o w write) (t.finish o w write) := by
  cases w with
  | ok v pos => exact (hwrite v).setPos_complete pos
  | raise c info pos => exact h.errorAction o c info pos

/-! ### What a ready command reads -/

theorem AgreeWhereWritten.byte_eq {lo hi : Nat} (hready : s.written.blkRange lo hi = true) {j : Nat}
    (hlo : lo ≤ j) (hhi : j < hi) : s.blk.byte j = t.blk.byte j := by
  obtain ⟨-, hblk, -⟩ := h
  by_cases hj : j < 16
  · have hwritten : s.written.blk[j] = true := by
      have hrange := List.all_eq_true.mp hready ⟨j, hj⟩ (List.mem_finRange _)
      simpa [hlo, hhi] using hrange
    have heq := congrArg BitVec.toNat (hblk ⟨j, hj⟩ hwritten)
    exact (s.blk.byte_eq ⟨j, hj⟩).trans (heq.trans (t.blk.byte_eq ⟨j, hj⟩).symm)
  · rw [Block.byte_above _ (Nat.not_lt.mp hj), Block.byte_above _ (Nat.not_lt.mp hj)]

theorem AgreeWhereWritten.blk_eq (hready : s.written.blkRange 0 16 = true) : s.blk = t.blk :=
  Vector.ext fun j hj => BitVec.eq_of_toNat_eq <|
    (s.blk.byte_eq ⟨j, hj⟩).symm.trans
      ((h.byte_eq hready (Nat.zero_le j) hj).trans (t.blk.byte_eq ⟨j, hj⟩))

theorem AgreeWhereWritten.sameHalf (hready : s.written.blkRange 0 8 = true) :
    s.blk.SameHalf 0 t.blk 0 := fun j hj => by
  rw [Nat.zero_add]
  exact h.byte_eq hready (Nat.zero_le j) hj

theorem AgreeWhereWritten.samples_eq {c : Channel} (hready : s.written.channel c = true) :
    s.samples c = t.samples c := by
  obtain ⟨-, -, hpix8, -⟩ := h
  refine List.map_congr_left fun i hi => congrArg BitVec.toNat (hpix8 i c ?_)
  exact List.all_eq_true.mp hready i hi

/-- A cursor read that is refused, or of no bits, reads nothing; another one only written bytes. -/
theorem AgreeWhereWritten.getBits_eq {L n pos : Nat} (hready : s.written.cursorRead L n pos = true) :
    getBits s.blk L n pos = getBits t.blk L n pos := by
  by_cases h8 : 8 < n
  · rw [getBits_contract _ _ _ h8, getBits_contract _ _ _ h8]
  obtain rfl | h1 := Nat.eq_zero_or_pos n
  · rw [getBits_zero, getBits_zero]
  by_cases hfits : pos + n ≤ L
  · have hrange : s.written.blkRange (pos / 8) ((pos + n - 1) / 8 + 1) = true := by
      have hn : n ≠ 0 := Nat.ne_of_gt h1
      simpa [Written.cursorRead, hn, h8, Nat.not_lt.mpr hfits] using hready
    have hfield : s.blk.memRead pos n = t.blk.memRead pos n :=
      Block.memRead_congr fun k hk => h.byte_eq hrange (by omega) (by omega)
    rw [getBits_ok _ (Nat.not_lt.mp h8) hfits, getBits_ok _ (Nat.not_lt.mp h8) hfits, hfield]
  · have hover := Nat.not_le.mp hfits
    rw [getBits_overrun _ (Nat.not_lt.mp h8) h1 hover, getBits_overrun _ (Nat.not_lt.mp h8) h1 hover]

theorem AgreeWhereWritten.getBit_eq {L pos : Nat} (hready : s.written.cursorRead L 1 pos = true) :
    getBit s.blk L pos = getBit t.blk L pos := by
  by_cases hfits : pos + 1 ≤ L
  · have hone := h.getBits_eq hready
    rw [getBits_ok _ (by decide) hfits, getBits_ok _ (by decide) hfits, Block.memRead_one,
      Block.memRead_one, Walk.ok.injEq] at hone
    rw [getBit_ok _ hfits, getBit_ok _ hfits, hone.1]
  · have hover := Nat.not_le.mp hfits
    rw [getBit_overrun _ hover, getBit_overrun _ hover]

theorem AgreeWhereWritten.encodeHalf {o : Nat} (bias : Byte) {c : Channel} (ho : o ≤ 8)
    (hsamples : s.samples c = t.samples c) :
    AgreeWhereWritten (s.encodeHalf o bias c) (t.encodeHalf o bias c) := by
  refine h.setBlkHalf fun j hj => BitVec.eq_of_toNat_eq ?_
  rw [← Block.byte_eq, ← Block.byte_eq, ← Nat.add_sub_cancel' hj.1, hsamples]
  exact packBc4_sameHalf s.blk t.blk ho (t.samples_length c) bias.toNat _ (by omega)

end

/-! ### The commands -/

/-- From both states the instruction completes, and leaves states that agree. -/
def AgreeAfter (i : Instr) (s t : State) : Prop :=
  ∃ s' t', exec i s = .next s' ∧ exec i t = .next t' ∧ AgreeWhereWritten s' t'

section
variable {s t : State} (h : AgreeWhereWritten s t)
include h

theorem agreeAfter_clrw : AgreeAfter .clrw s t := by
  obtain ⟨hw, hblk, hpix8, hpixh, hval, hpos, hcmd, -, -, hrest⟩ := h
  exact ⟨_, _, exec_clrw s, exec_clrw t, hw, hblk, hpix8, hpixh, hval, hpos, hcmd, rfl, rfl, hrest⟩

theorem agreeAfter_getbit {w64 : Bool} (hready : ready (.getbit w64) s = true) :
    AgreeAfter (.getbit w64) s t := by
  refine ⟨_, _, rfl, rfl, ?_⟩
  rw [← h.pos_eq, ← h.getBit_eq hready]
  exact h.finish _ _ h.setVal

theorem agreeAfter_getbits {n : Byte} {w64 : Bool} (hready : ready (.getbits n w64) s = true) :
    AgreeAfter (.getbits n w64) s t := by
  refine ⟨_, _, rfl, rfl, ?_⟩
  rw [← h.pos_eq, ← h.getBits_eq hready]
  exact h.finish _ _ h.setVal

theorem agreeAfter_reservedCmd (w : Word) : AgreeAfter (.reservedCmd w) s t := by
  refine ⟨_, _, rfl, rfl, ?_⟩
  rw [← h.pos_eq]
  exact h.errorAction ..

theorem agreeAfter_decBc1 {f4 : Bool} (hready : ready (.decBc1 f4) s = true) :
    AgreeAfter (.decBc1 f4) s t := by
  refine ⟨_, _, exec_decBc1 s f4, exec_decBc1 t f4, ?_⟩
  simp only [(h.sameHalf hready).decodeBc1_eq]
  exact (h.setPix8 _).setPos_complete 64

theorem agreeAfter_decBc4 {bias : Byte} {c : Channel} (hready : ready (.decBc4 bias c) s = true) :
    AgreeAfter (.decBc4 bias c) s t := by
  refine ⟨_, _, exec_decBc4 s bias c, exec_decBc4 t bias c, ?_⟩
  simp only [(h.sameHalf hready).decodeBc4_eq]
  exact (h.setPix8Channel c _).setPos_complete 64

theorem agreeAfter_encBc4 {bias : Byte} {c : Channel} (hready : ready (.encBc4 bias c) s = true) :
    AgreeAfter (.encBc4 bias c) s t :=
  ⟨_, _, exec_encBc4 s bias c, exec_encBc4 t bias c,
    (h.encodeHalf bias (by decide) (h.samples_eq hready)).setPos_complete 64⟩

theorem agreeAfter_encBc5 {bias : Byte} (hready : ready (.encBc5 bias) s = true) :
    AgreeAfter (.encBc5 bias) s t := by
  obtain ⟨hred, hgreen⟩ := (Bool.and_eq_true _ _).mp hready
  have hfirst := h.encodeHalf bias (o := 0) (by decide) (h.samples_eq hred)
  exact ⟨_, _, exec_encBc5 s bias, exec_encBc5 t bias,
    (hfirst.encodeHalf bias (le_refl 8) (h.samples_eq hgreen)).setPos_complete 128⟩

theorem agreeAfter_bc6hReservedRow {sgn : Bool} {i : Instr}
    (hi : i ∈ (bc6hReservedRows sgn).map Prod.fst) : AgreeAfter i s t := by
  obtain ⟨row, hrow, rfl⟩ := List.mem_map.mp hi
  exact ⟨_, _, exec_bc6hReservedRow sgn s row hrow, exec_bc6hReservedRow sgn t row hrow,
    h.errorAction ..⟩

theorem agreeAfter_bc7Reserved : AgreeAfter .bc7Reserved s t :=
  ⟨_, _, exec_bc7Reserved s, exec_bc7Reserved t, h.errorAction ..⟩

section
variable (hblk : s.blk = t.blk)
include hblk

theorem agreeAfter_decBc2 : AgreeAfter .decBc2 s t := by
  refine ⟨_, _, exec_decBc2 s, exec_decBc2 t, ?_⟩
  rw [hblk]
  exact (h.setPix8 _).setPos_complete 128

theorem agreeAfter_decBc3 : AgreeAfter .decBc3 s t := by
  refine ⟨_, _, exec_decBc3 s, exec_decBc3 t, ?_⟩
  rw [hblk]
  exact (h.setPix8 _).setPos_complete 128

theorem agreeAfter_decBc5 (bias : Byte) : AgreeAfter (.decBc5 bias) s t := by
  refine ⟨_, _, exec_decBc5 s bias, exec_decBc5 t bias, ?_⟩
  rw [hblk]
  exact ((h.setPix8Channel .r _).setPix8Channel .g _).setPos_complete 128

theorem agreeAfter_bc6hRow {sgn : Bool} {i : Instr} (hi : i ∈ (bc6hRows sgn).map Prod.fst) :
    AgreeAfter i s t := by
  obtain ⟨row, hrow, rfl⟩ := List.mem_map.mp hi
  refine ⟨_, _, exec_bc6hRow sgn s row hrow, exec_bc6hRow sgn t row hrow, ?_⟩
  rw [bc6hDecode, bc6hDecode, hblk]
  exact h.finish _ _ fun x => h.setPixh _

theorem agreeAfter_bc7Row {i : Instr} (hi : i ∈ bc7Rows.map Prod.fst) : AgreeAfter i s t := by
  obtain ⟨row, hrow, rfl⟩ := List.mem_map.mp hi
  refine ⟨_, _, exec_bc7Row s row hrow, exec_bc7Row t row hrow, ?_⟩
  rw [bc7Decode, bc7Decode, hblk]
  exact h.finish _ _ fun x => h.setPix8 _

theorem agreeAfter_decBc6h (sgn : Bool) : AgreeAfter (.decBc6h sgn) s t := by
  rw [AgreeAfter, exec_decBc6h_eq_layout, exec_decBc6h_eq_layout, ← hblk]
  obtain ⟨-, hrow⟩ | ⟨-, hrow⟩ := bc6hLayout_cases sgn s.blk[0]
  · exact agreeAfter_bc6hRow h hblk hrow
  · exact agreeAfter_bc6hReservedRow h (List.mem_map_of_mem hrow)

theorem agreeAfter_decBc7 : AgreeAfter .decBc7 s t := by
  rw [AgreeAfter, exec_decBc7_eq_layout, exec_decBc7_eq_layout, ← hblk]
  obtain ⟨-, hrow⟩ | ⟨-, hrow⟩ := bc7Layout_cases s.blk[0]
  · exact agreeAfter_bc7Row h hblk hrow
  · rw [hrow]
    exact agreeAfter_bc7Reserved h

end

end

/-- Settles O60: by the instruction; the one with nothing written to read has nothing to observe. -/
theorem neverWrittenElementsAreNotObservedByReadyCommands :
    Obligations.NeverWrittenElementsAreNotObservedByReadyCommands := by
  unfold Obligations.NeverWrittenElementsAreNotObservedByReadyCommands
  intro i s t h hready
  cases i
  case nop => exact ⟨_, _, exec_nop s, exec_nop t, h.complete⟩
  case clrw => exact agreeAfter_clrw h
  case reservedCmd w => exact agreeAfter_reservedCmd h w
  case getbit => exact agreeAfter_getbit h hready
  case getbits => exact agreeAfter_getbits h hready
  case decBc1 => exact agreeAfter_decBc1 h hready
  case decBc4 => exact agreeAfter_decBc4 h hready
  case encBc4 => exact agreeAfter_encBc4 h hready
  case encBc5 => exact agreeAfter_encBc5 h hready
  -- the others read all of `BLK`
  all_goals have hblk := h.blk_eq hready
  case decBc2 => exact agreeAfter_decBc2 h hblk
  case decBc3 => exact agreeAfter_decBc3 h hblk
  case decBc5 bias => exact agreeAfter_decBc5 h hblk bias
  case decBc6h sgn => exact agreeAfter_decBc6h h hblk sgn
  case decBc7 => exact agreeAfter_decBc7 h hblk
  case bc7Reserved => exact agreeAfter_bc7Reserved h
  case bc7Mode0 | bc7Mode1 | bc7Mode2 | bc7Mode3 | bc7Mode4 | bc7Mode5 | bc7Mode6 | bc7Mode7 =>
    exact agreeAfter_bc7Row h hblk (by decide)
  case bc6hReserved13 sgn | bc6hReserved17 sgn | bc6hReserved1B sgn | bc6hReserved1F sgn =>
    exact agreeAfter_bc6hReservedRow h (sgn := sgn) (by simp [bc6hReservedRows])
  -- the fourteen BC6H modes
  all_goals
    rename_i sgn
    exact agreeAfter_bc6hRow h hblk (sgn := sgn) (by simp [bc6hRows])

end Sys2Proof.Machine

/-! SUPPORT. The host's side of a step (10_state.md R32; 30_encoding.md R80 to R83, R105): which words are
commands, what a table word runs, and what a host read or write of each offset does. -/

namespace Sys2Proof

/-! ### The rows of the command words -/

/-- Settles O1: each word and each prefix byte is evaluated. -/
theorem sampleWordsDecodeToTheirInstructions : Obligations.SampleWordsDecodeToTheirInstructions := by
  unfold Obligations.SampleWordsDecodeToTheirInstructions
  decide

theorem opCodes_lt : ∀ op ∈ opCodes, op < 256 := by decide

theorem isReservedWord_eq_false_iff (w : Word) :
    isReservedWord w = false ↔ w.extractLsb' 21 11 = 0 ∧ opField w ∈ opCodes := by
  simp [isReservedWord, opField]

/-- The mask of the rows keeps bits 31:21 and the code. -/
theorem and_commandMask (w : Nat) (hw : w < 2 ^ 32) :
    w &&& 0xFFE000FF = w / 2 ^ 21 * 2 ^ 21 + w % 2 ^ 8 := by
  have hlow : (w &&& 0xFFE000FF) % 2 ^ 21 = w % 2 ^ 21 % 2 ^ 8 := by
    rw [Nat.and_mod_two_pow]
    exact Nat.and_two_pow_sub_one_eq_mod _ 8
  have hhigh : (w &&& 0xFFE000FF) / 2 ^ 21 = w / 2 ^ 21 % 2 ^ 11 := by
    rw [← Nat.shiftRight_eq_div_pow, Nat.shiftRight_and_distrib, Nat.shiftRight_eq_div_pow]
    exact Nat.and_two_pow_sub_one_eq_mod _ 11
  omega

/-- A word matches the row whose code it has, when bits 31:21 are 0. -/
theorem and_commandMask_eq_iff (w : Word) {op : Nat} (hop : op < 256) :
    w &&& 0xFFE000FF = BitVec.ofNat 32 op ↔ w.extractLsb' 21 11 = 0 ∧ opField w = op := by
  have hmask : (w &&& 0xFFE000FF).toNat = w.toNat / 2 ^ 21 * 2 ^ 21 + w.toNat % 2 ^ 8 :=
    (BitVec.toNat_and ..).trans (and_commandMask w.toNat w.isLt)
  rw [opField_eq, highBits_eq_zero_iff, ← BitVec.toNat_inj, hmask, BitVec.toNat_ofNat]
  omega

theorem exists_row_iff (w : Word) :
    (∃ r ∈ commandRows, w &&& r.2 = r.1) ↔ isReservedWord w = false := by
  rw [isReservedWord_eq_false_iff, commandRows]
  constructor
  · rintro ⟨r, hr, hmatch⟩
    obtain ⟨op, hop, rfl⟩ := List.mem_map.mp hr
    obtain ⟨hhigh, hcode⟩ := (and_commandMask_eq_iff w (opCodes_lt op hop)).mp hmatch
    exact ⟨hhigh, hcode ▸ hop⟩
  · rintro ⟨hhigh, hop⟩
    exact ⟨_, List.mem_map_of_mem hop, (and_commandMask_eq_iff w (opCodes_lt _ hop)).mpr ⟨hhigh, rfl⟩⟩

/-- A word matches no two rows: they have one mask, and a match is what the word is under it. -/
theorem row_unique {w : Word} {r₁ r₂ : Word × Word} (h₁ : r₁ ∈ commandRows) (h₂ : r₂ ∈ commandRows)
    (hm₁ : w &&& r₁.2 = r₁.1) (hm₂ : w &&& r₂.2 = r₂.1) : r₁ = r₂ := by
  obtain ⟨op₁, -, rfl⟩ := List.mem_map.mp h₁
  obtain ⟨op₂, -, rfl⟩ := List.mem_map.mp h₂
  exact Prod.ext (hm₁.symm.trans hm₂) rfl

/-- The thirteen codes of the table are read as commands of their own. -/
theorem decodeWord_of_not_reserved {w : Word} (h : isReservedWord w = false) :
    decodeWord w ≠ .reservedCmd w ∧ (decodeWord w).wellFormed = true := by
  obtain ⟨hhigh, hop⟩ := (isReservedWord_eq_false_iff w).mp h
  simp only [opCodes, List.mem_cons, List.not_mem_nil, or_false] at hop
  rcases hop with hop | hop | hop | hop | hop | hop | hop | hop | hop | hop | hop | hop | hop <;>
    simp [decodeWord, hhigh, hop, Instr.wellFormed]

/-- Settles O4: a word that is not reserved has a code of the table, which is its one row. -/
theorem commandRowsPartitionTheCommandWords : Obligations.CommandRowsPartitionTheCommandWords := by
  unfold Obligations.CommandRowsPartitionTheCommandWords
  intro w
  refine ⟨fun r₁ h₁ r₂ h₂ => row_unique h₁ h₂, exists_row_iff w, ?_⟩
  cases hw : isReservedWord w with
  | true =>
    rw [Machine.decodeWord_of_isReservedWord hw]
    exact ⟨iff_of_true rfl rfl, hw⟩
  | false =>
    obtain ⟨hne, hwf⟩ := decodeWord_of_not_reserved hw
    exact ⟨iff_of_false hne nofun, hwf⟩

/-! ### The words of the opcode table (R105) -/

theorem decodeTableWord_of_command {nbits : Nat} (w : Nat) (h : 16 < nbits) :
    decodeTableWord nbits w = some (decodeWord (BitVec.ofNat 32 w)) := by
  rw [decodeTableWord, tableBytes, if_neg (Nat.not_le.mpr h), decode_bytesOfWord]

theorem decodeTableWord_of_prefix {nbits w : Nat} (h : nbits ≤ 16) {i : Instr}
    (hrow : layoutOf (decodeWord (tablePrefixCommand nbits w)) (BitVec.ofNat 8 w) = some i) :
    decodeTableWord nbits w = some i := by
  rw [decodeTableWord, tableBytes, if_pos h, decode_bytesOfWord_prefix hrow]

end Sys2Proof

namespace Sys2Proof.Machine

/-- The command of a prefix word has a layout row for every first byte. -/
theorem exists_layoutOf_tablePrefixCommand (nbits w : Nat) (b0 : Byte) :
    ∃ i, layoutOf (decodeWord (tablePrefixCommand nbits w)) b0 = some i := by
  rw [tablePrefixCommand]
  split
  · exact ⟨_, by rw [decodeWord_bc7Word, layoutOf]⟩
  · exact ⟨_, by rw [decodeWord_bc6hWord, layoutOf]⟩

section
variable (s : State) {nbits w : Nat}

theorem State.withFetchWord_of_command (h : 16 < nbits) :
    s.withFetchWord nbits w = { s with bus := .write 0x10 (BitVec.ofNat 32 w) :: s.bus } :=
  if_neg (Nat.not_le.mpr h)

/-- A prefix word is loaded as the first byte of the block, its command pending. -/
theorem State.withFetchWord_of_prefix (h8 : 8 ≤ nbits) (h16 : nbits ≤ 16) :
    (s.withFetchWord nbits w).bus = .write 0x10 (tablePrefixCommand nbits w) :: s.bus ∧
      (s.withFetchWord nbits w).fatal = s.fatal ∧
      (s.withFetchWord nbits w).blk[0] = BitVec.ofNat 8 w := by
  rw [State.withFetchWord, if_pos h16]
  refine ⟨rfl, rfl, BitVec.eq_of_toNat_eq ?_⟩
  simp [Nat.mod_mod_of_dvd _ (Nat.pow_dvd_pow 2 h8)]

end

/-- Settles O7: a command word is the pending command itself; a prefix word is read by the command it is
loaded for, which runs the layout row of the first byte. -/
theorem fetchWordRunsTheDecodedTableWord : Obligations.FetchWordRunsTheDecodedTableWord := by
  unfold Obligations.FetchWordRunsTheDecodedTableWord
  intro s hfatal
  refine ⟨fun nbits w h => ⟨_, decodeTableWord_of_command w h, ?command⟩,
    fun nbits w h8 h16 => ?blockPrefix, fun nbits h9 h16 => decodeTableWord_of_prefix h16 ?zero⟩
  case command =>
    rw [s.withFetchWord_of_command h]
    exact step_command_of_not_fatal (rest := s.bus) rfl hfatal
  case blockPrefix =>
    obtain ⟨hbus, hf, hfirst⟩ := s.withFetchWord_of_prefix (w := w) h8 h16
    obtain ⟨i, hi⟩ := exists_layoutOf_tablePrefixCommand nbits w (BitVec.ofNat 8 w)
    refine ⟨i, decodeTableWord_of_prefix h16 hi, ?_⟩
    rw [step_command_of_not_fatal hbus (hf.trans hfatal)]
    refine decodeCommandsRunTheLayoutRowOfTheirPrefix _ i _ ?_
    rw [← hi, ← hfirst]
  case zero =>
    rw [tablePrefixCommand, if_pos (.inl h9), decodeWord_bc7Word]
    decide

/-! ### The host's accesses (R32) -/

/-- Settles O6: such an access is the acceptance of the command. -/
theorem stepRunsTheCommandTheHostWrites : Obligations.StepRunsTheCommandTheHostWrites := by
  unfold Obligations.StepRunsTheCommandTheHostWrites
  exact fun s w rest hbus hfatal => step_command_of_not_fatal hbus hfatal

/-- Settles O11: the reset state is the constant it is, and a reset access loads it. -/
theorem resetLeavesTheControlRegistersZero : Obligations.ResetLeavesTheControlRegistersZero := by
  unfold Obligations.ResetLeavesTheControlRegistersZero
  exact ⟨⟨rfl, rfl, rfl, rfl, rfl⟩, step_idle rfl,
    fun s rest hbus => ⟨_, step_reset hbus, rfl, rfl, rfl, rfl, rfl, rfl⟩⟩

theorem number_ofNumber {k : Nat} (h : k < 4) : (Channel.ofNumber k).number = k := by
  interval_cases k <;> rfl

/-- The element found at an offset stands there. -/
theorem offset_of_hostReg {off : Nat} {r : HostReg} (h : hostReg off = some r) : r.offset = off := by
  unfold hostReg at h
  split_ifs at h with hblk hcmd hstat hpos hval hwarn hfatal hpix8 hpixh <;>
    obtain rfl := Option.some.inj h
  · exact Nat.mod_eq_of_lt hblk
  · exact hcmd.symm
  · exact hstat.symm
  · exact hpos.symm
  · exact hval.symm
  · exact hwarn.symm
  · exact hfatal.symm
  · rw [HostReg.offset, number_ofNumber (Nat.mod_lt _ (by decide)), Fin.val_ofNat]
    omega
  · rw [HostReg.offset, number_ofNumber (by omega), Fin.val_ofNat]
    omega

theorem hostReg_eq_some_iff {off : Nat} {r : HostReg} : hostReg off = some r ↔ off = r.offset :=
  ⟨fun h => (offset_of_hostReg h).symm, fun h => h ▸ hostReg_offset r⟩

theorem State.hostRead_offset (s : State) (r : HostReg) : s.hostRead r.offset = s.regValue r := by
  simp [State.hostRead]

theorem State.hostRead_of_no_reg (s : State) {off : Nat} (h : ∀ r : HostReg, r.offset ≠ off) :
    s.hostRead off = 0 := by
  have hnone : hostReg off = none := Option.eq_none_iff_forall_ne_some.mpr fun r hr =>
    h r (offset_of_hostReg hr)
  simp [State.hostRead, hnone]

/-- An element narrower than the lane keeps its value in it. -/
theorem toNat_setWidth_lane {n : Nat} (x : BitVec n) (h : n ≤ 32) : (x.setWidth 32).toNat = x.toNat := by
  rw [BitVec.toNat_setWidth, Nat.mod_eq_of_lt (x.isLt.trans_le (Nat.pow_le_pow_right (by decide) h))]

/-- Settles O9: the offsets are those of the elements, whose values the read returns. -/
theorem hostReadsFollowTheRegisterMap : Obligations.HostReadsFollowTheRegisterMap := by
  unfold Obligations.HostReadsFollowTheRegisterMap
  intro s off rest hbus
  have hread (r : HostReg) (h : off = r.offset) : s.hostRead off = s.regValue r := h ▸ s.hostRead_offset r
  refine ⟨s.hostRead off, step_read hbus, fun i h => ?_, hread .cmd, hread .stat, fun h => ?_,
    fun h => ?_, fun h => ?_, fun h => ?_, fun i c h => ?_, fun i c h => ?_, s.hostRead_of_no_reg⟩
  · exact hread (.blk i) h ▸ toNat_setWidth_lane _ (by decide)
  · exact hread .pos h ▸ toNat_setWidth_lane _ (by decide)
  · exact hread .val h ▸ toNat_setWidth_lane _ (by decide)
  · exact hread .warn h ▸ toNat_setWidth_lane _ (by decide)
  · rw [hread .fatal h, State.regValue, toNat_setWidth_lane _ (by decide), BitVec.toNat_ofBool]
  · exact hread (.pix8 i c) h ▸ toNat_setWidth_lane _ (by decide)
  · exact hread (.pixh i c) h ▸ toNat_setWidth_lane _ (by decide)

/-! ### Host writes -/

section
variable (s : State) (off : Nat) (v : Word)

theorem State.hostWrite_blk (j : Fin 16) :
    (s.hostWrite off v).blk[j] = if hostReg off = some (.blk j) then v.setWidth 8 else s.blk[j] := by
  unfold State.hostWrite
  split
  case h_4 hblk _ _ => rw [if_neg (hblk j)]
  all_goals simp_all [Vector.getElem_set, Fin.ext_iff]

theorem State.hostWrite_pos :
    (s.hostWrite off v).pos = if hostReg off = some .pos then v.setWidth 8 else s.pos := by
  unfold State.hostWrite
  split <;> simp_all

theorem State.hostSetPix8_get (i k : Fin 16) (c d : Channel) (x : Byte) :
    ((s.hostSetPix8 k d x).pix8[i]).get c = if k = i ∧ d = c then x else (s.pix8[i]).get c := by
  by_cases hi : k = i
  · subst hi
    by_cases hc : d = c
    · subst hc
      simp
    · simp [hc, Pixel.get_set_other _ _ _ _ (Ne.symm hc)]
  · have hne : k.val ≠ i.val := fun h => hi (Fin.ext h)
    simp [hi, hne]

theorem State.hostWrite_pix8 (i : Fin 16) (c : Channel) :
    ((s.hostWrite off v).pix8[i]).get c =
      if hostReg off = some (.pix8 i c) then v.setWidth 8 else (s.pix8[i]).get c := by
  unfold State.hostWrite
  split
  case h_3 k d hreg => simp only [s.hostSetPix8_get, hreg, Option.some.injEq, HostReg.pix8.injEq]
  case h_4 _ _ hpix8 => rw [if_neg (hpix8 i c)]
  all_goals simp_all

theorem State.hostWrite_others : (s.hostWrite off v).pixh = s.pixh ∧ (s.hostWrite off v).val = s.val ∧
    (s.hostWrite off v).cmd = s.cmd ∧ (s.hostWrite off v).rdata = s.rdata := by
  unfold State.hostWrite
  split <;> exact ⟨rfl, rfl, rfl, rfl⟩

end

/-- Settles O10: the element at the offset takes the write, if it is one the host can write. -/
theorem hostWritesChangeOnlyTheWritableElement :
    Obligations.HostWritesChangeOnlyTheWritableElement := by
  unfold Obligations.HostWritesChangeOnlyTheWritableElement
  intro s off v rest hbus hoff
  obtain ⟨hpixh, hval, hcmd, hrdata⟩ := State.hostWrite_others { s with bus := rest } off v
  obtain ⟨hstat, hwarn⟩ := State.hostWrite_status { s with bus := rest } off v
  refine ⟨_, step_write hbus hoff, State.hostWrite_bus _ off v, fun j => ?blk, ?pos, fun i c => ?pix8,
    hpixh, hval, hcmd, hstat, hwarn, State.hostWrite_fatal _ off v, hrdata⟩
  case blk => simp only [State.hostWrite_blk, hostReg_eq_some_iff, HostReg.offset]
  case pos => simp only [State.hostWrite_pos, hostReg_eq_some_iff, HostReg.offset]
  case pix8 => simp only [State.hostWrite_pix8, hostReg_eq_some_iff, HostReg.offset]

end Sys2Proof.Machine

/-! SUPPORT. The search of the BC4 encoder (46_bc4_bc5_encode.md R301 to R307): its bounds and windows, the pair
it keeps, and the error of a decode after an encode. -/

namespace Sys2Proof.Machine

/-! ### The bounds (R302, R303) -/

section
variable {v : List Nat}

theorem minOf_le {x : Nat} (hx : x ∈ v) : minOf v ≤ x := List.min_le_of_le' 255 hx le_rfl

theorem le_maxOf {x : Nat} (hx : x ∈ v) : x ≤ maxOf v := List.le_max_of_le' 0 hx le_rfl

theorem minOf_le_255 (v : List Nat) : minOf v ≤ 255 := by
  induction v with
  | nil => exact le_rfl
  | cons y ys ih => exact (Nat.min_le_right ..).trans ih

theorem maxOf_le_255 (hv : ∀ x ∈ v, x ≤ 255) : maxOf v ≤ 255 := List.max_le_of_forall_le v 255 hv

/-- The 255 of no samples is not less than any sample. -/
theorem leastOf_minOf (hv : ∀ x ∈ v, x ≤ 255) (hne : v ≠ []) : leastOf (minOf v) v := by
  refine ⟨?mem, fun x hx => minOf_le hx⟩
  induction v with
  | nil => exact absurd rfl hne
  | cons y ys ih =>
    obtain ⟨hy, hys⟩ := List.forall_mem_cons.mp hv
    obtain rfl | hne := eq_or_ne ys []
    · simp [minOf, hy]
    · have hcons : minOf (y :: ys) = min y (minOf ys) := rfl
      obtain h | h := min_choice y (minOf ys) <;> rw [hcons, h]
      · exact List.mem_cons_self
      · exact List.mem_cons_of_mem y (ih hys hne)

theorem greatestOf_maxOf (hne : v ≠ []) : greatestOf (maxOf v) v := by
  refine ⟨?mem, fun x hx => le_maxOf hx⟩
  induction v with
  | nil => exact absurd rfl hne
  | cons y ys ih =>
    obtain rfl | hne := eq_or_ne ys []
    · simp [maxOf]
    · have hcons : maxOf (y :: ys) = max y (maxOf ys) := rfl
      obtain h | h := max_choice y (maxOf ys) <;> rw [hcons, h]
      · exact List.mem_cons_self
      · exact List.mem_cons_of_mem y (ih hne)

theorem innerSamples_le : ∀ x ∈ innerSamples v, x ≤ 255 := by
  intro x hx
  have hin : 8 ≤ x ∧ x ≤ 247 := by simpa using (List.mem_filter.mp hx).2
  omega

end

/-! ### The windows (R305, R306) -/

theorem windowPairs_eq_product (lo0 hi0 lo1 hi1 : Nat) : windowPairs lo0 hi0 lo1 hi1 =
    List.range' lo0 (hi0 + 1 - lo0) ×ˢ List.range' lo1 (hi1 + 1 - lo1) := rfl

theorem windowPairs_nodup (lo0 hi0 lo1 hi1 : Nat) : (windowPairs lo0 hi0 lo1 hi1).Nodup :=
  List.Nodup.product (List.nodup_range' ..) (List.nodup_range' ..)

theorem mem_windowPairs {lo0 hi0 lo1 hi1 a0 a1 : Nat} :
    (a0, a1) ∈ windowPairs lo0 hi0 lo1 hi1 ↔ lo0 ≤ a0 ∧ a0 ≤ hi0 ∧ lo1 ≤ a1 ∧ a1 ≤ hi1 := by
  rw [windowPairs_eq_product, List.mem_product, List.mem_range'_1, List.mem_range'_1]
  omega

theorem windowPairs_length_le {lo0 hi0 lo1 hi1 : Nat} (h0 : hi0 + 1 - lo0 ≤ 12)
    (h1 : hi1 + 1 - lo1 ≤ 12) : (windowPairs lo0 hi0 lo1 hi1).length ≤ 144 := by
  rw [windowPairs_eq_product, List.length_product, List.length_range', List.length_range']
  exact Nat.mul_le_mul h0 h1

section
variable {v : List Nat}

theorem mem_tightWindow {a0 a1 : Nat} : (a0, a1) ∈ tightWindow v ↔
    maxOf v ≤ a0 + 4 ∧ a0 < maxOf v + 8 ∧ minOf v ≤ a1 + 8 ∧ a1 < minOf v + 4 ∧ a0 ≤ 255 ∧ a1 ≤ 255 := by
  rw [tightWindow, mem_windowPairs]
  omega

theorem mem_flippedWindow {a0 a1 : Nat} : (a0, a1) ∈ flippedWindow v ↔
    minInner v ≤ a0 + 8 ∧ a0 < minInner v + 4 ∧ maxInner v ≤ a1 + 4 ∧ a1 < maxInner v + 8 ∧
      a0 ≤ 255 ∧ a1 ≤ 255 := by
  rw [flippedWindow, mem_windowPairs]
  omega

theorem maxOf_minOf_mem_tightWindow (hv : ∀ x ∈ v, x ≤ 255) : (maxOf v, minOf v) ∈ tightWindow v := by
  have hmax := maxOf_le_255 hv
  have hmin := minOf_le_255 v
  rw [mem_tightWindow]
  omega

end

/-- Settles O51: the bounds are folds of the samples, and a window is the product of two ranges. -/
theorem searchWindowsAreTheStatedRanges : Obligations.SearchWindowsAreTheStatedRanges := by
  unfold Obligations.SearchWindowsAreTheStatedRanges
  intro v hv inner
  refine ⟨fun hne => ⟨leastOf_minOf hv hne, greatestOf_maxOf hne⟩, fun hne => ?inner, fun hnil => ?noInner,
    by simp [nearEnds], fun a0 a1 => mem_tightWindow, fun a0 a1 => mem_flippedWindow,
    windowPairs_length_le (by omega) (by omega), windowPairs_length_le (by omega) (by omega),
    maxOf_minOf_mem_tightWindow hv⟩
  case inner =>
    have hne : innerSamples v ≠ [] := hne
    rw [minInner, maxInner, if_neg hne, if_neg hne]
    exact ⟨leastOf_minOf innerSamples_le hne, greatestOf_maxOf hne⟩
  case noInner => exact ⟨if_pos hnil, if_pos hnil⟩

end Sys2Proof.Machine

/-! SUPPORT. The pair the search of the BC4 encoder keeps (46_bc4_bc5_encode.md R307): the first of least
score. The search stops at the first score 0, which no later pair can beat, so it is a search of the whole
list. -/

namespace Sys2Proof.Machine

/-! ### The first pair of least score -/

/-- `b` records the first pair of least score of a list. -/
def FirstLeast (v : List Nat) (L : List (Nat × Nat)) (b : Best) : Prop :=
  b.e = score v b.a0 b.a1 ∧ (∀ p ∈ L, b.e ≤ score v p.1 p.2) ∧
    ∃ pre post, L = pre ++ (b.a0, b.a1) :: post ∧ ∀ p ∈ pre, b.e < score v p.1 p.2

section
variable {v : List Nat} {P Q : List (Nat × Nat)} {b : Best}

theorem firstLeast_singleton (a0 a1 : Nat) : FirstLeast v [(a0, a1)] ⟨score v a0 a1, a0, a1⟩ :=
  ⟨rfl, by simp, [], [], rfl, by simp⟩

/-- Pairs behind a list that score no less change nothing. -/
theorem FirstLeast.append (h : FirstLeast v P b) (hQ : ∀ p ∈ Q, b.e ≤ score v p.1 p.2) :
    FirstLeast v (P ++ Q) b := by
  obtain ⟨he, hle, pre, post, rfl, hpre⟩ := h
  exact ⟨he, List.forall_mem_append.mpr ⟨hle, hQ⟩, pre, post ++ Q, by simp, hpre⟩

/-- A pair behind a list that scores less is the first of least score. -/
theorem FirstLeast.append_of_less (h : FirstLeast v P b) {a0 a1 : Nat} (hless : score v a0 a1 < b.e) :
    FirstLeast v (P ++ [(a0, a1)]) ⟨score v a0 a1, a0, a1⟩ := by
  obtain ⟨-, hle, -⟩ := h
  have hlt : ∀ p ∈ P, score v a0 a1 < score v p.1 p.2 := fun p hp => hless.trans_le (hle p hp)
  exact ⟨rfl, List.forall_mem_append.mpr ⟨fun p hp => (hlt p hp).le, by simp⟩, P, [], rfl, hlt⟩

/-- A pair not before the first one of least score is behind it. -/
theorem FirstLeast.of_append (h : FirstLeast v (P ++ Q) b) :
    FirstLeast v P b ∨ (∀ p ∈ P, b.e < score v p.1 p.2) ∧ FirstLeast v Q b := by
  obtain ⟨he, hle, pre, post, hsplit, hpre⟩ := h
  obtain ⟨hP, hQ⟩ := List.forall_mem_append.mp hle
  obtain ⟨c, rfl, hc⟩ | ⟨c, rfl, hc⟩ := List.append_eq_append_iff.mp hsplit
  · obtain ⟨hpreP, hprec⟩ := List.forall_mem_append.mp hpre
    exact .inr ⟨hpreP, he, hQ, c, post, hc, hprec⟩
  · cases c with
    | nil => exact .inr ⟨by simpa using hpre, he, hQ, [], post, hc.symm, by simp⟩
    | cons p c =>
      obtain ⟨rfl, -⟩ := List.cons.inj hc
      exact .inl ⟨he, hP, pre, c, rfl, hpre⟩

/-- In a list without repetition every pair before the recorded one scores more. -/
theorem FirstLeast.lt_of_before (h : FirstLeast v P b) (hnodup : P.Nodup) {pre post : List (Nat × Nat)}
    (hP : P = pre ++ (b.a0, b.a1) :: post) : ∀ p ∈ pre, b.e < score v p.1 p.2 := by
  obtain ⟨he, -, pre', post', hP', hpre'⟩ := h
  have hnot : (b.a0, b.a1) ∉ pre' ∧ (b.a0, b.a1) ∉ post' := by
    rw [hP', List.nodup_middle, List.nodup_cons, List.mem_append, not_or] at hnodup
    exact hnodup.1
  obtain ⟨rfl, -⟩ := (List.append_cons_inj_of_notMem hnot.1 hnot.2).mp (hP'.symm.trans hP)
  exact hpre'

theorem FirstLeast.mem (h : FirstLeast v P b) : (b.a0, b.a1) ∈ P := by
  obtain ⟨-, -, pre, post, rfl, -⟩ := h
  simp

end

/-! ### The search -/

section
variable {v : List Nat}

/-- The search goes on from the first pair of least score of the pairs before. -/
theorem firstLeast_searchWindow_some {P : List (Nat × Nat)} {b : Best} (ps : List (Nat × Nat))
    (h : FirstLeast v P b) :
    ∃ b', (searchWindow v (some b) ps).1 = some b' ∧ FirstLeast v (P ++ ps) b' := by
  induction ps generalizing P b with
  | nil => exact ⟨b, rfl, by rwa [List.append_nil]⟩
  | cons p ps ih =>
    obtain ⟨a0, a1⟩ := p
    rw [searchWindow, List.append_cons]
    by_cases hless : score v a0 a1 < b.e
    · have hnext := h.append_of_less hless
      by_cases hzero : score v a0 a1 = 0
      · exact ⟨_, by simp [improves, hzero, Nat.zero_lt_of_lt hless], hnext.append fun p _ => by simp [hzero]⟩
      · simpa [improves, hless, hzero] using ih hnext
    · simpa [improves, hless] using ih (h.append (Q := [(a0, a1)]) (by simpa using hless))

theorem firstLeast_searchWindow_none {L : List (Nat × Nat)} (hL : L ≠ []) :
    ∃ b, (searchWindow v none L).1 = some b ∧ FirstLeast v L b := by
  cases L with
  | nil => exact absurd rfl hL
  | cons p ps =>
    obtain ⟨a0, a1⟩ := p
    have hfirst := firstLeast_singleton (v := v) a0 a1
    by_cases hzero : score v a0 a1 = 0
    · exact ⟨_, by simp [searchWindow, improves, hzero], hfirst.append fun p _ => by simp [hzero]⟩
    · simpa [searchWindow, improves, hzero] using firstLeast_searchWindow_some ps hfirst

/-- A search that stopped keeps its pair over any further pairs. -/
theorem searchWindow_append (best : Option Best) (ps qs : List (Nat × Nat)) :
    (searchWindow v best (ps ++ qs)).1 =
      if (searchWindow v best ps).2 then (searchWindow v best ps).1
      else (searchWindow v (searchWindow v best ps).1 qs).1 := by
  induction ps generalizing best with
  | nil => rfl
  | cons p ps ih =>
    obtain ⟨a0, a1⟩ := p
    simp only [List.cons_append, searchWindow]
    split_ifs <;> simp_all

/-- The flipped window, where it is searched (R306). -/
def secondWindow (v : List Nat) : List (Nat × Nat) := if nearEnds v then flippedWindow v else []

theorem searchBoth_eq (v : List Nat) :
    searchBoth v = (searchWindow v none (tightWindow v ++ secondWindow v)).1 := by
  rw [searchWindow_append, searchBoth, secondWindow]
  split <;> split <;> simp_all [searchWindow]

theorem firstLeast_bestPair (hv : ∀ x ∈ v, x ≤ 255) :
    FirstLeast v (tightWindow v ++ secondWindow v) (bestPair v) := by
  have hne : tightWindow v ++ secondWindow v ≠ [] :=
    List.append_ne_nil_of_left_ne_nil (List.ne_nil_of_mem (maxOf_minOf_mem_tightWindow hv)) _
  obtain ⟨b, hb, hfirst⟩ := firstLeast_searchWindow_none (v := v) hne
  rwa [bestPair, searchBoth_eq, hb, Option.getD_some]

theorem mem_secondWindow {p : Nat × Nat} :
    p ∈ secondWindow v ↔ nearEnds v = true ∧ p ∈ flippedWindow v := by
  unfold secondWindow
  split <;> simp_all

end

/-- Settles O52: the search keeps the first pair of least score of the two windows put together. -/
theorem searchKeepsTheFirstLeastScore : Obligations.SearchKeepsTheFirstLeastScore := by
  unfold Obligations.SearchKeepsTheFirstLeastScore
  intro v hv best
  have h : FirstLeast v (tightWindow v ++ secondWindow v) best := firstLeast_bestPair hv
  obtain ⟨he, hle, -⟩ := id h
  obtain ⟨htight, hsecond⟩ := List.forall_mem_append.mp hle
  refine ⟨he, ?member, htight, fun hnear p hp => hsecond p (mem_secondWindow.mpr ⟨hnear, hp⟩), ?first,
    fun hout => ?notTight⟩
  case member => exact (List.mem_append.mp h.mem).imp id mem_secondWindow.mp
  case first =>
    intro pre post hsplit
    obtain hP | ⟨hless, -⟩ := h.of_append
    · exact hP.lt_of_before (windowPairs_nodup ..) hsplit
    · exact fun p hp => hless p (hsplit ▸ List.mem_append_left _ hp)
  case notTight =>
    obtain hP | ⟨hless, hQ⟩ := h.of_append
    · exact absurd hP.mem hout
    · obtain ⟨hnear, -⟩ := mem_secondWindow.mp hQ.mem
      rw [secondWindow, if_pos hnear] at hQ
      exact ⟨hless, fun pre post hsplit => hQ.lt_of_before (windowPairs_nodup ..) hsplit⟩

end Sys2Proof.Machine

/-! SUPPORT. A decode after an encode (46_bc4_bc5_encode.md R313): each decoded byte is the palette entry nearest
to its sample, so that the squared error is the score of the chosen pair. -/

namespace Sys2Proof.Machine

/-! ### The nearest entry -/

theorem min?_squares {P : List Nat} (hP : P ≠ []) (x : Nat) :
    (P.map fun q => absDiff x q ^ 2).min? = some (nearestSq P x) := by
  cases P with
  | nil => exact absurd rfl hP
  | cons p ps => rw [List.map_cons, List.min?_cons', List.foldl_map, nearestSq]

theorem nearestSq_eq_nearestIndex {P : List Nat} (hP : P ≠ []) (x : Nat) :
    nearestSq P x = absDiff x (P.getD (nearestIndex P x) 0) ^ 2 := by
  obtain ⟨hlt, hmin, -⟩ := firstNearest_nearestIndex x hP
  refine Option.some.inj ((min?_squares hP x).symm.trans (List.min?_eq_some_iff.mpr ⟨?mem, ?le⟩))
  case mem =>
    rw [List.getD_eq_getElem _ _ hlt]
    exact List.mem_map_of_mem (List.getElem_mem hlt)
  case le =>
    intro d hd
    obtain ⟨q, hq, rfl⟩ := List.mem_map.mp hd
    obtain ⟨j, hj, rfl⟩ := List.getElem_of_mem hq
    exact Nat.pow_le_pow_left (List.getD_eq_getElem P 0 hj ▸ hmin j hj) 2

/-! ### The decoded bytes -/

/-- Biased samples are bytes. -/
theorem biased_lt (x bias : Nat) : biased x bias < 256 := Nat.mod_lt _ (by decide)

theorem map_biased_le (samples : List Nat) (bias : Nat) :
    ∀ x ∈ samples.map fun x => biased x bias, x ≤ 255 := by
  intro x hx
  obtain ⟨y, -, rfl⟩ := List.mem_map.mp hx
  exact Nat.le_of_lt_succ (biased_lt y bias)

/-- Taking the bias away from a byte and adding it again. -/
theorem biased_unbiased {x : Nat} (hx : x < 256) (bias : Nat) : biased (unbiased x bias) bias = x := by
  rw [biased, unbiased]
  omega

section
variable {a0 a1 : Nat} (h0 : a0 ≤ 255) (h1 : a1 ≤ 255)
include h0 h1

theorem pal8_getD_le (k : Nat) : (pal8 a0 a1).getD k 0 ≤ 255 := by
  by_cases hk : k < (pal8 a0 a1).length
  · rw [List.getD_eq_getElem _ _ hk]
    exact pal8_le h0 h1 (List.getElem_mem hk)
  · rw [List.getD_eq_default _ _ (Nat.not_lt.mp hk)]
    exact Nat.zero_le 255

/-- A decoded byte, biased, is the palette entry of its index when the endpoints were unbiased bytes. -/
theorem biased_decodeBc4 {b : Block} {o bias : Nat} (i : Nat) (hb0 : b.byte o = unbiased a0 bias)
    (hb1 : b.byte (o + 1) = unbiased a1 bias) :
    biased (decodeBc4 b o bias i) bias = (pal8 a0 a1).getD (b.bc4Index o i) 0 := by
  rw [decodeBc4, bc4Palette, b.bc4E0_eq, b.bc4E1_eq, hb0, hb1,
    biased_unbiased (Nat.lt_succ_of_le h0), biased_unbiased (Nat.lt_succ_of_le h1),
    biased_unbiased (Nat.lt_succ_of_le (pal8_getD_le h0 h1 _))]

end

/-- The chosen endpoints are bytes (R305, R306). -/
theorem bestPair_le {v : List Nat} (hv : ∀ x ∈ v, x ≤ 255) :
    (bestPair v).a0 ≤ 255 ∧ (bestPair v).a1 ≤ 255 := by
  obtain htight | hsecond := List.mem_append.mp (firstLeast_bestPair hv).mem
  · have hrange := mem_tightWindow.mp htight
    omega
  · have hrange := mem_flippedWindow.mp (mem_secondWindow.mp hsecond).2
    omega

/-- What a decode makes of a half that holds an encoding: the nearest palette entries. -/
theorem biased_decodeBc4_of_holdsEncoded {b : Block} {samples : List Nat} {bias : Nat}
    (h : b.HoldsEncoded 0 (encodeBc4 samples bias)) {i : Nat} (hi : i < samples.length) (h16 : i < 16) :
    let v := samples.map fun x => biased x bias
    biased (decodeBc4 b 0 bias i) bias = (pal8 (bestPair v).a0 (bestPair v).a1).getD
      (nearestIndex (pal8 (bestPair v).a0 (bestPair v).a1) (v.getD i 0)) 0 := by
  intro v
  obtain ⟨h0, h1⟩ := bestPair_le (map_biased_le samples bias)
  obtain ⟨hb0, hb1, hidx⟩ := h
  have hindex : b.bc4Index 0 i = _ := (hidx i h16).trans (encodeBc4_idx_getD bias hi)
  rw [biased_decodeBc4 h0 h1 i hb0 hb1, hindex]

/-! ### The error of the two commands (R313) -/

/-- When each value of `d` is the palette entry nearest to its sample, the error is the score. -/
theorem squaredError_eq_score {v d : List Nat} {a0 a1 : Nat} (hlen : d.length = v.length)
    (hd : ∀ i < v.length, d.getD i 0 =
      (pal8 a0 a1).getD (nearestIndex (pal8 a0 a1) (v.getD i 0)) 0) :
    squaredError v d = score v a0 a1 := by
  have hne : pal8 a0 a1 ≠ [] := List.ne_nil_of_length_eq_add_one (pal8_length a0 a1)
  refine congrArg List.sum (List.ext_getElem (by simp [hlen]) fun i hi hi' => ?_)
  rw [List.length_map] at hi'
  have hdi := hd i hi'
  rw [List.getD_eq_getElem _ _ (hlen ▸ hi'), List.getD_eq_getElem _ _ hi'] at hdi
  rw [List.getElem_zipWith, List.getElem_map, hdi, nearestSq_eq_nearestIndex hne]

/-- The decoded channel, byte by byte. -/
theorem samples_decBc4 (t : State) (bias : Byte) (c : Channel) (p : Nat) :
    (((t.setPix8Channel c fun i => BitVec.ofNat 8 (decodeBc4 t.blk 0 bias.toNat i)).setPos
      p).complete).samples c = (List.finRange 16).map fun i : Fin 16 => decodeBc4 t.blk 0 bias.toNat i := by
  refine List.map_congr_left fun i _ => ?_
  have hlt : decodeBc4 t.blk 0 bias.toNat i < 256 := unbiased_lt _ _
  simp [Nat.mod_eq_of_lt hlt]

section
variable {b : Block} {samples : List Nat} {bias : Nat} (hlen : samples.length = 16)
  (h : b.HoldsEncoded 0 (encodeBc4 samples bias))
include hlen h

/-- The error of decoding a half that holds the encoding of some samples. -/
theorem squaredError_of_holdsEncoded :
    let v := samples.map fun x => biased x bias
    let d := ((List.finRange 16).map fun i : Fin 16 => decodeBc4 b 0 bias i).map fun x => biased x bias
    squaredError v d = score v (bestPair v).a0 (bestPair v).a1 := by
  intro v d
  refine squaredError_eq_score (by simp [v, d, hlen]) fun i hi => ?_
  have hi : i < samples.length := by simpa [v] using hi
  have h16 : i < 16 := hlen ▸ hi
  rw [← biased_decodeBc4_of_holdsEncoded h hi h16, List.getD_eq_getElem _ _ (by simpa [d] using h16)]
  simp [d]

/-- The chosen pair is stored in the half, and scores no more than the greatest and least sample. -/
theorem squaredError_eq_and_le :
    let v := samples.map fun x => biased x bias
    let d := ((List.finRange 16).map fun i : Fin 16 => decodeBc4 b 0 bias i).map fun x => biased x bias
    squaredError v d = score v (biased (b.byte 0) bias) (biased (b.byte 1) bias) ∧
      squaredError v d ≤ score v (maxOf v) (minOf v) := by
  intro v d
  have hv : ∀ x ∈ v, x ≤ 255 := map_biased_le samples bias
  obtain ⟨h0, h1⟩ := bestPair_le hv
  obtain ⟨he, hleast, -⟩ := firstLeast_bestPair hv
  have herror : squaredError v d = score v (bestPair v).a0 (bestPair v).a1 :=
    squaredError_of_holdsEncoded hlen h
  obtain ⟨hb0, hb1, -⟩ := h
  have hstored0 : biased (b.byte 0) bias = (bestPair v).a0 := by
    rw [hb0]
    exact biased_unbiased (Nat.lt_succ_of_le h0) bias
  have hstored1 : biased (b.byte 1) bias = (bestPair v).a1 := by
    rw [hb1]
    exact biased_unbiased (Nat.lt_succ_of_le h1) bias
  rw [hstored0, hstored1, herror, ← he]
  exact ⟨rfl, hleast _ (List.mem_append_left _ (maxOf_minOf_mem_tightWindow hv))⟩

end

/-- Settles O54: the decode reads the palette the encode chose, at the nearest entries; the pair `(max, min)`
is one of those the search has seen. -/
theorem encodeThenDecodeErrorIsBounded : Obligations.EncodeThenDecodeErrorIsBounded := by
  unfold Obligations.EncodeThenDecodeErrorIsBounded
  intro bias chan s
  refine ⟨_, _, exec_encBc4 s bias chan, exec_decBc4 _ bias chan, ?_⟩
  rw [samples_decBc4]
  exact squaredError_eq_and_le (s.samples_length chan)
    (s.encodeHalf_holdsEncoded bias chan (Nat.zero_le 8))

end Sys2Proof.Machine
